-- ==== Sys2Proof/Word.lean ====
section
/-!
DEFINITION. The words the station link and the card header carry: bytes and the wider fields, each sent
most significant byte first (00 Byte order).
-/

namespace Sys2Proof

/-- One byte of a frame or of a card header. -/
abbrev Byte := BitVec 8
/-- A two-byte field. -/
abbrev Word16 := BitVec 16
/-- A four-byte field; stamps and live totals, which wrap (00 Totals and counters). -/
abbrev Word32 := BitVec 32

end Sys2Proof
end

