-- ==== Sys2Proof/Config.lean ====
section
/-!
DEFINITION. What the JB485 fixes for itself (capacities, ceilings, preset times, power-on settings), and the one
value the manual leaves open.
-/

namespace Sys2Proof.Config

/-- The debt ceiling (R65). -/
@[simp, reducible] def debtCeiling : Nat := 7
/-- Places of the record queue, records and reservations alike (R135). -/
@[simp, reducible] def queuePlaces : Nat := 64
/-- Entries of the tear list (R116). -/
@[simp, reducible] def tearPlaces : Nat := 32
/-- The most units a tear entry owes outside its doubted unit (R122). -/
@[simp, reducible] def tearOwedMax : Nat := 8
/-- Segments of one call (R56, R57). -/
@[simp, reducible] def segmentPlaces : Nat := 4
/-- Consecutive failures that make a CARD_FAULT or an UNREADABLE card (R22, R73). -/
@[simp, reducible] def retryLimit : Nat := 3
/-- Largest face of a valid unit card (R80). -/
@[simp, reducible] def faceMax : Nat := 1000
/-- Kind code of a unit card (R80). -/
@[simp, reducible] def unitCardKind : Byte := 0x5A
/-- Metering periods of the TONE timing, 1.5 s (R63). -/
@[simp, reducible] def tonePeriods : Nat := 150
/-- Length of the bus test in ms (R93). -/
@[simp, reducible] def busTestMs : Nat := 50
/-- Top of a period counter (R147). -/
@[simp, reducible] def counterTop : Nat := 65535
/-- Most summaries one CHANGES returns (R157). -/
@[simp, reducible] def changesMax : Nat := 24
/-- Sync byte of a frame (R153). -/
@[simp, reducible] def syncByte : Byte := 0xB4
/-- Largest length byte of a frame (R153). -/
@[simp, reducible] def frameLengthMax : Nat := 250

/-- FREE VALUE, DESIGN CHOICE (notes/assumptions/4.md). The type byte of the refusal that answers a request type of
80h or above: R155 says "the request type plus 80h", and that sum does not fit in the byte. Nothing is known of it. -/
opaque responseTypeAbove : Byte → Byte

end Sys2Proof.Config
end

