-- ==== Sys2Proof/Syntax.lean ====
section
/-!
DEFINITION. The commands of the block: one constructor of `Instr` for each row of spec/opcode_table.json, and the
types of their operands. The operands of a request are the body fields of R165, as the bytes received.
-/

namespace Sys2Proof

/-- One telephone position, 0 to 47 (00 Positions). -/
abbrev PosId := Fin 48

/-- One card engine: 0 to 3 are E0 to E3, 4 is ER (00 Engines, R94). -/
abbrev EngineId := Fin 5

/-- Values of the hook input (01 section 1.1). -/
inductive HookLevel where
  | on
  | off
  deriving DecidableEq, Repr

/-- Values of the card-contact input (01 section 1.1). -/
inductive CardLevel where
  | present
  | absent
  deriving DecidableEq, Repr

/-- The four codes of the line-code input (01 section 1.1). -/
inductive LineCode where
  | idle
  | proceed
  | answer
  | clearback
  deriving DecidableEq, Repr

/-- One sample of one input of a position (R1). -/
inductive Sample where
  | hook (v : HookLevel)
  | card (v : CardLevel)
  | line (v : LineCode)
  deriving DecidableEq, Repr

/-- How a reader answers a select (R83). -/
inductive SelectReply where
  | present
  | absent
  /-- no answer within 0.2 ms -/
  | noAnswer
  deriving DecidableEq, Repr

/-- Why a frame is discarded (R154), but for the gap, which is a command of its own. -/
inductive DiscardReason where
  | badLength
  | stopBitLow
  | rateChange
  | overrun
  | checkFailed
  deriving DecidableEq, Repr

/-- The commands, in the order of spec/opcode_table.json. -/
inductive Instr where
  /-- POWER_ON_RESET -/
  | powerOnReset
  /-- INPUT_SAMPLE: one sample of one input of a position -/
  | inputSample (p : PosId) (v : Sample)
  /-- METERING_TICK -/
  | meteringTick
  /-- UNIT_EXPIRY at a position -/
  | unitExpiry (p : PosId)
  /-- ANSWER_WAIT_EXPIRY at a position -/
  | answerWaitExpiry (p : PosId)
  /-- TONE_EXPIRY at a position -/
  | toneExpiry (p : PosId)
  /-- CLEAR_WAIT_EXPIRY at a position -/
  | clearWaitExpiry (p : PosId)
  /-- STAMP_ADVANCE -/
  | stampAdvance
  /-- SNAPSHOT_INTERVAL_EXPIRY -/
  | snapshotIntervalExpiry
  /-- BUS_TEST_END of an engine, PASS or FAIL -/
  | busTestEnd (e : EngineId) (pass : Bool)
  /-- SELECT_ANSWER on an engine's bus -/
  | selectAnswer (e : EngineId) (a : SelectReply)
  /-- HEADER_READ_DONE on an engine's bus, with the 12 bytes clocked out -/
  | headerReadDone (e : EngineId) (bytes : Vector Byte 12)
  /-- READY_SIGNAL on an engine's bus -/
  | readySignal (e : EngineId)
  /-- BURN_TIMEOUT at an engine -/
  | burnTimeout (e : EngineId)
  /-- BUS_STALL on an engine's bus -/
  | busStall (e : EngineId)
  /-- IDENTIFY_COMPLETION at an engine -/
  | identifyCompletion (e : EngineId)
  /-- VERIFY_COMPLETION at an engine -/
  | verifyCompletion (e : EngineId)
  /-- BURN_COMPLETION at an engine -/
  | burnCompletion (e : EngineId)
  /-- LISTED_CARD_NOTICE taken by a position -/
  | listedCardNotice (p : PosId)
  /-- FRAME_DISCARD -/
  | frameDiscard (why : DiscardReason)
  /-- FRAME_GAP_TIMEOUT -/
  | frameGapTimeout
  /-- UNKNOWN_REQUEST: a good frame the link controller refuses itself, with its type and body -/
  | unknownRequest (type : Byte) (body : List Byte)
  /-- RESPONSE_SENT -/
  | responseSent
  /-- STATUS -/
  | status
  /-- CHANGES -/
  | changes
  /-- POSITION -/
  | position (p : Byte)
  /-- ROUTE -/
  | route (p cls : Byte)
  /-- RELEASE -/
  | release (p : Byte)
  /-- BLOCK -/
  | block (p : Byte)
  /-- UNBLOCK -/
  | unblock (p : Byte)
  /-- PROFILE -/
  | profile (p prof : Byte)
  /-- FREEZE -/
  | freeze (p mark : Byte)
  /-- ALLOCATE -/
  | allocate (p alloc : Byte)
  /-- LANE_MODE -/
  | laneMode (e mode len auto : Byte)
  /-- LANE_DISABLE -/
  | laneDisable (e : Byte)
  /-- LANE_ENABLE -/
  | laneEnable (e : Byte)
  /-- LANE_TEST -/
  | laneTest (e : Byte)
  /-- TARIFF_STAGE -/
  | tariffStage (cls band defined : Byte) (period : Word16) (step initial follow : Byte)
  /-- TARIFF_COPY -/
  | tariffCopy
  /-- TARIFF_COMMIT -/
  | tariffCommit (edition : Byte)
  /-- TARIFF_READ -/
  | tariffRead (selector cls band : Byte)
  /-- BAND -/
  | band (b : Byte)
  /-- RECORD_PEEK -/
  | recordPeek
  /-- RECORD_RELEASE -/
  | recordRelease (seq : Word16)
  /-- TEAR_READ -/
  | tearRead (index : Byte)
  /-- TEAR_DELETE -/
  | tearDelete (series : Word16) (serial : Word32)
  /-- COUNTERS -/
  | counters
  /-- SNAPSHOT -/
  | snapshot
  /-- SET -/
  | set (code : Byte) (value : Word16)
  /-- CLOCK -/
  | clock (stamp : Word32)
  /-- CLEAR_ALERTS -/
  | clearAlerts (alerts : Word16)
  /-- LINK_RATE -/
  | linkRate (code : Byte)
  /-- RESTART -/
  | restart
  /-- LINK_BYTE_RECEIVED: a good character -/
  | linkByteReceived (b : Byte)
  deriving DecidableEq, Repr

end Sys2Proof
end

