-- ==== Sys2Proof/Decode.lean ====
section
/-!
DEFINITION. From words to commands. No row of spec/opcode_table.json gives bits, so `decodeTableWord` spells none.
What the hardware itself decodes is the frame: the request types and body fields of R165, read by
`decodeRequest` and written by `requestType` and `requestBody`.
-/

namespace Sys2Proof

/-- No row of the table gives bits: no word spells a command. -/
def decodeTableWord (_nbits _w : Nat) : Option Instr := none

/-- The body length of each request type (R165); none for a type that is no request type. -/
def requestLength (type : Byte) : Option Nat :=
  match type.toNat with
  | 0x01 => some 0 | 0x02 => some 0 | 0x03 => some 1
  | 0x10 => some 2 | 0x11 => some 1 | 0x12 => some 1 | 0x13 => some 1
  | 0x14 => some 2 | 0x15 => some 2 | 0x16 => some 2
  | 0x20 => some 4 | 0x21 => some 1 | 0x22 => some 1 | 0x23 => some 1
  | 0x30 => some 8 | 0x31 => some 0 | 0x32 => some 1 | 0x33 => some 3 | 0x34 => some 1
  | 0x40 => some 0 | 0x41 => some 2 | 0x42 => some 1 | 0x43 => some 6
  | 0x50 => some 0 | 0x51 => some 0
  | 0x60 => some 3 | 0x61 => some 4 | 0x62 => some 2 | 0x63 => some 1 | 0x6F => some 0
  | _ => none

/-- A frame refused before any owner fails test 1 or test 2 of R155: its type is no request type, or its body has not
the length of its type. -/
def refusedByLink (type : Byte) (body : List Byte) : Bool := requestLength type != some body.length

/-- A two-byte field, most significant byte first. -/
def word16 (hi lo : Byte) : Word16 := hi ++ lo

/-- A four-byte field, most significant byte first. -/
def word32 (a b c d : Byte) : Word32 := a ++ b ++ c ++ d

/-- The bytes of a two-byte field as they are sent. -/
def bytes16 (w : Word16) : List Byte := [w.extractLsb' 8 8, w.extractLsb' 0 8]

/-- The bytes of a four-byte field as they are sent. -/
def bytes32 (w : Word32) : List Byte :=
  [w.extractLsb' 24 8, w.extractLsb' 16 8, w.extractLsb' 8 8, w.extractLsb' 0 8]

/-! The fields of a body of a given length; any other body goes to the second argument. -/

def fields0 (c other : Instr) : List Byte → Instr
  | [] => c
  | _ :: _ => other

def fields1 (f : Byte → Instr) (other : Instr) : List Byte → Instr
  | [a] => f a
  | _ => other

def fields2 (f : Byte → Byte → Instr) (other : Instr) : List Byte → Instr
  | [a, b] => f a b
  | _ => other

def fields3 (f : Byte → Byte → Byte → Instr) (other : Instr) : List Byte → Instr
  | [a, b, c] => f a b c
  | _ => other

def fields4 (f : Byte → Byte → Byte → Byte → Instr) (other : Instr) : List Byte → Instr
  | [a, b, c, d] => f a b c d
  | _ => other

/-- TARIFF STAGE from its 8 body bytes. -/
def readTariffStage (other : Instr) : List Byte → Instr
  | [c, b, d, ph, pl, st, i, f] => .tariffStage c b d (word16 ph pl) st i f
  | _ => other

/-- TEAR DELETE from its 6 body bytes. -/
def readTearDelete (other : Instr) : List Byte → Instr
  | [h, l, a, b, c, d] => .tearDelete (word16 h l) (word32 a b c d)
  | _ => other

/-- The request a good frame with this type and body carries (R155, R165). A type that is no request type, and a body
of another length, is the frame the link controller refuses itself. -/
def decodeRequest (type : Byte) (body : List Byte) : Instr :=
  let other := Instr.unknownRequest type body
  match type.toNat with
  | 0x01 => fields0 .status other body
  | 0x02 => fields0 .changes other body
  | 0x03 => fields1 .position other body
  | 0x10 => fields2 .route other body
  | 0x11 => fields1 .release other body
  | 0x12 => fields1 .block other body
  | 0x13 => fields1 .unblock other body
  | 0x14 => fields2 .profile other body
  | 0x15 => fields2 .freeze other body
  | 0x16 => fields2 .allocate other body
  | 0x20 => fields4 .laneMode other body
  | 0x21 => fields1 .laneDisable other body
  | 0x22 => fields1 .laneEnable other body
  | 0x23 => fields1 .laneTest other body
  | 0x30 => readTariffStage other body
  | 0x31 => fields0 .tariffCopy other body
  | 0x32 => fields1 .tariffCommit other body
  | 0x33 => fields3 .tariffRead other body
  | 0x34 => fields1 .band other body
  | 0x40 => fields0 .recordPeek other body
  | 0x41 => fields2 (fun h l => .recordRelease (word16 h l)) other body
  | 0x42 => fields1 .tearRead other body
  | 0x43 => readTearDelete other body
  | 0x50 => fields0 .counters other body
  | 0x51 => fields0 .snapshot other body
  | 0x60 => fields3 (fun c h l => .set c (word16 h l)) other body
  | 0x61 => fields4 (fun a b c d => .clock (word32 a b c d)) other body
  | 0x62 => fields2 (fun h l => .clearAlerts (word16 h l)) other body
  | 0x63 => fields1 .linkRate other body
  | 0x6F => fields0 .restart other body
  | _ => other

/-- The type byte of the frame that carries a request (R165); 0 for a command that is no request. -/
def requestType : Instr → Byte
  | .status => 0x01
  | .changes => 0x02
  | .position _ => 0x03
  | .route _ _ => 0x10
  | .release _ => 0x11
  | .block _ => 0x12
  | .unblock _ => 0x13
  | .profile _ _ => 0x14
  | .freeze _ _ => 0x15
  | .allocate _ _ => 0x16
  | .laneMode _ _ _ _ => 0x20
  | .laneDisable _ => 0x21
  | .laneEnable _ => 0x22
  | .laneTest _ => 0x23
  | .tariffStage _ _ _ _ _ _ _ => 0x30
  | .tariffCopy => 0x31
  | .tariffCommit _ => 0x32
  | .tariffRead _ _ _ => 0x33
  | .band _ => 0x34
  | .recordPeek => 0x40
  | .recordRelease _ => 0x41
  | .tearRead _ => 0x42
  | .tearDelete _ _ => 0x43
  | .counters => 0x50
  | .snapshot => 0x51
  | .set _ _ => 0x60
  | .clock _ => 0x61
  | .clearAlerts _ => 0x62
  | .linkRate _ => 0x63
  | .restart => 0x6F
  | .unknownRequest type _ => type
  | .powerOnReset | .inputSample _ _ | .meteringTick | .unitExpiry _ | .answerWaitExpiry _ | .toneExpiry _
  | .clearWaitExpiry _ | .stampAdvance | .snapshotIntervalExpiry | .busTestEnd _ _ | .selectAnswer _ _
  | .headerReadDone _ _ | .readySignal _ | .burnTimeout _ | .busStall _ | .identifyCompletion _
  | .verifyCompletion _ | .burnCompletion _ | .listedCardNotice _ | .frameDiscard _ | .frameGapTimeout
  | .responseSent | .linkByteReceived _ => 0

/-- The body of the frame that carries a request (R165). -/
def requestBody : Instr → List Byte
  | .position p | .release p | .block p | .unblock p => [p]
  | .route p c => [p, c]
  | .profile p v => [p, v]
  | .freeze p m => [p, m]
  | .allocate p a => [p, a]
  | .laneMode e m g r => [e, m, g, r]
  | .laneDisable e | .laneEnable e | .laneTest e => [e]
  | .tariffStage c b d period st i f => [c, b, d] ++ bytes16 period ++ [st, i, f]
  | .tariffCommit n => [n]
  | .tariffRead t c b => [t, c, b]
  | .band b => [b]
  | .recordRelease q => bytes16 q
  | .tearRead i => [i]
  | .tearDelete series serial => bytes16 series ++ bytes32 serial
  | .set c v => c :: bytes16 v
  | .clock t => bytes32 t
  | .clearAlerts a => bytes16 a
  | .linkRate c => [c]
  | .unknownRequest _ body => body
  | .status | .changes | .tariffCopy | .recordPeek | .counters | .snapshot | .restart
  | .powerOnReset | .inputSample _ _ | .meteringTick | .unitExpiry _ | .answerWaitExpiry _ | .toneExpiry _
  | .clearWaitExpiry _ | .stampAdvance | .snapshotIntervalExpiry | .busTestEnd _ _ | .selectAnswer _ _
  | .headerReadDone _ _ | .readySignal _ | .burnTimeout _ | .busStall _ | .identifyCompletion _
  | .verifyCompletion _ | .burnCompletion _ | .listedCardNotice _ | .frameDiscard _ | .frameGapTimeout
  | .responseSent | .linkByteReceived _ => []

/-- Whether a command is a frame of the station link: a request of R165, or the frame refused before any owner. -/
def isRequest : Instr → Bool
  | .unknownRequest _ _ => true
  | c => (requestType c).toNat != 0

end Sys2Proof
end

