-- ==== Sys2Proof/Machine/State.lean ====
section
/-!
DEFINITION. Everything the spec gives the JB485 to hold, as plain data, and its values after power-on reset.
The state is laid out by the blocks of 00 Overview. A figure that is another view of a field held here (candidate
sets, reservation count, wait set, change set, level alerts, ATTN) is computed, not stored (notes/assumptions/10.md).
An absent value, and the accepted value UNKNOWN, is `none`.
-/

namespace Sys2Proof.Machine

/-! ### Supervision scanner -/

/-- One supervised input (R2): accepted value (`none` is UNKNOWN), last sample, run count. -/
structure Input (α : Type) where
  accepted : Option α
  last : Option α
  run : Nat
  deriving DecidableEq, Repr

/-- The three de-bounce depths (R2, R6). -/
structure Depths where
  hook : Nat
  card : Nat
  line : Nat
  deriving DecidableEq, Repr

/-! ### Metering unit -/

/-- A unit timer (R62). -/
structure UnitTimer where
  count : Nat
  running : Bool
  deriving DecidableEq, Repr

/-- What a one-shot timer times (R63); `stopped` is the kind "none". -/
inductive OneShotKind where
  | stopped
  | answerWait
  | tone
  | clearWait
  deriving DecidableEq, Repr

/-- A one-shot timer (R63). -/
structure OneShot where
  kind : OneShotKind
  count : Nat
  deriving DecidableEq, Repr

/-! ### Position controller -/

/-- The eleven states of a position (R16). -/
inductive PosState where
  | vacant
  | reading
  | refused
  | recovering
  | ready
  | routed
  | metering
  | lastUnit
  | freeCall
  | clearing
  | blocked
  deriving DecidableEq, Repr

/-- The use of a position (R9, R16). -/
inductive Profile where
  | card
  | free
  | unused
  deriving DecidableEq, Repr

/-- Why a card is refused (R24). -/
inductive RefusalCause where
  | unreadable
  | foreign
  | empty
  | invalid
  | faulty
  deriving DecidableEq, Repr

/-- How a call or a recovery ended (R31, R44, R136). -/
inductive EndCause where
  | hungUp
  | farEnd
  | noAnswer
  | exhausted
  | debtLimit
  | cardWithdrawn
  | cardFault
  | host
  | blocked
  | restart
  | tariffUndefined
  | complete
  | empty
  deriving DecidableEq, Repr

/-- The card operations (R86 to R88). -/
inductive CardOp where
  | identify
  | verify
  | burn
  deriving DecidableEq, Repr

/-- The two fields that identify a card. -/
structure CardKey where
  series : Word16
  serial : Word32
  deriving DecidableEq, Repr

/-- The card identity of a position (R16). -/
structure CardId where
  key : CardKey
  face : Nat
  deriving DecidableEq, Repr

/-- Which engine serves a position (R107). -/
inductive Allocation where
  | home
  | relief
  deriving DecidableEq, Repr

/-- The in-flight field of a position (R16). -/
structure InFlight where
  engine : EngineId
  op : CardOp
  discard : Bool
  deriving DecidableEq, Repr

/-- The kind of a call (R17). -/
inductive CallKind where
  | call
  | free
  deriving DecidableEq, Repr

/-- The tariff a call has copied (R54). -/
structure InUseTariff where
  period : Nat
  step : Nat
  follow : Bool
  deriving DecidableEq, Repr

/-- A segment of a call (R56). -/
structure Segment where
  band : Fin 4
  edition : Byte
  units : Nat
  deriving DecidableEq, Repr

/-- What became of the units of a call or of a recovery (R17, R128, R136). -/
structure Units where
  burned : Nat
  writtenOff : Nat
  owedOut : Nat
  doubtOut : Nat
  anomaly : Bool
  deriving DecidableEq, Repr

/-- The call context (R17, R136). -/
structure Call where
  kind : CallKind
  cls : Fin 16
  setup : Word32
  answer : Option Word32
  tariff : Option InUseTariff
  bandPending : Bool
  segments : List Segment
  merged : Bool
  charged : Nat
  units : Units
  endCause : Option EndCause
  duration : Word32
  deriving DecidableEq, Repr

/-- How the doubted unit of a tear entry was resolved at the hand-over (R127). -/
inductive Resolution where
  | noDoubt
  | taken
  | notTaken
  | anomaly
  deriving DecidableEq, Repr

/-- The recovery field (R128). -/
structure Recovery where
  owedIn : Nat
  resolution : Resolution
  start : Word32
  units : Units
  deriving DecidableEq, Repr

/-- One position: its supervision values (R2), its timers (R62, R63), its record (R16), and the listed-card notice it
has been handed and not yet taken (R124). -/
structure Position where
  hook : Input HookLevel
  card : Input CardLevel
  line : Input LineCode
  freezeMark : Bool
  lineEnable : Bool
  forcedClear : Bool
  tone : Bool
  unitTimer : UnitTimer
  oneShot : OneShot
  state : PosState
  profile : Profile
  refusal : Option RefusalCause
  identity : Option CardId
  remaining : Nat
  faulty : Bool
  debt : Nat
  doubt : Option Nat
  retry : Nat
  pendingOp : Option CardOp
  inFlight : Option InFlight
  allocation : Allocation
  relieved : Bool
  pendingAlloc : Option Allocation
  call : Option Call
  recovery : Option Recovery
  reservation : Bool
  blockPending : Bool
  cardLost : Bool
  cardLeft : Bool
  changed : Bool
  notice : Option CardKey
  deriving DecidableEq, Repr

/-- The settings the position controller holds (R64); the clear wait in tenths of a second. -/
structure Settings where
  urgency : Nat
  answerWait : Nat
  clearWait : Nat
  deriving DecidableEq, Repr

/-! ### Tariff store -/

/-- A tariff entry (R46). -/
structure TariffEntry where
  defined : Bool
  period : Word16
  step : Nat
  initial : Nat
  follow : Bool
  deriving DecidableEq, Repr

/-- A table of 16 classes by 4 bands. -/
abbrev TariffTable := Vector (Vector TariffEntry 4) 16

/-- The tariff store (R45). -/
structure TariffStore where
  active : TariffTable
  staged : TariffTable
  edition : Byte
  band : Fin 4
  deriving DecidableEq, Repr

/-! ### Card engines -/

/-- The lane states (R90). -/
inductive LaneState where
  | testing
  | inService
  | suspect
  | faulted
  | disabled
  deriving DecidableEq, Repr

/-- The order modes (R99). -/
inductive OrderMode where
  | fixed
  | rotating
  deriving DecidableEq, Repr

/-- What a header read shows (R80). -/
structure Header where
  kind : Byte
  key : CardKey
  face : Nat
  counter : Nat
  deriving DecidableEq, Repr

/-- The outcomes of card operations (05 section 5.4), with what each hands to the position. -/
inductive OpOutcome where
  | read (h : Header)
  | checkFail
  | noCard
  | done (counter : Nat)
  | notTaken (counter : Nat)
  | anomaly (counter : Nat)
  | cardGone
  | timeout
  | busFault
  | abandoned
  deriving DecidableEq, Repr

/-- The step an operation on the bus has reached (R86 to R88). -/
inductive BusStep where
  /-- step 1 of every operation: the reader is selected -/
  | select
  /-- the first header read: step 2 of IDENTIFY, VERIFY and BURN -/
  | read
  /-- step 3 of IDENTIFY: the second header read, with the bytes of the first -/
  | reread (first : Vector Byte 12)
  /-- step 3 of BURN: strobe given, ready watched -/
  | ready
  /-- step 3 of BURN after the burn timeout: the reader is selected once more (R85) -/
  | timeoutSelect
  /-- step 4 of BURN: the reader is selected for the read-back -/
  | backSelect
  /-- step 4 of BURN: the read-back -/
  | backRead
  /-- step 5 of BURN: the read-back a second time -/
  | backReread
  /-- the bus part has ended with this outcome and the completion is due -/
  | ended (o : OpOutcome)
  deriving DecidableEq, Repr

/-- The operation in flight at an engine (R90). For a BURN `before` and `key` are the counter before and the card's
key taken at the grant (R88); `key` is absent for the others. -/
structure EngineOp where
  position : PosId
  op : CardOp
  step : BusStep
  before : Nat
  key : Option CardKey
  deriving DecidableEq, Repr

/-- A card engine (R90, R99). -/
structure Engine where
  lane : LaneState
  testTimeLeft : Nat
  op : Option EngineOp
  laneReset : Bool
  disablePending : Bool
  mode : OrderMode
  pointer : Nat
  grantLength : Nat
  burst : Nat
  autoRelief : Bool
  deriving DecidableEq, Repr

/-! ### Tear list -/

/-- A tear entry (R116). -/
structure TearEntry where
  key : CardKey
  face : Nat
  owed : Nat
  inDoubt : Option Nat
  origin : PosId
  stamp : Word32
  deriving DecidableEq, Repr

/-- The last eviction (R116). -/
structure Eviction where
  key : CardKey
  owed : Nat
  inDoubt : Nat
  stamp : Word32
  deriving DecidableEq, Repr

/-- The tear list, oldest entry first (R116). -/
structure TearList where
  entries : List TearEntry
  lastEviction : Option Eviction
  deriving DecidableEq, Repr

/-! ### Record queue -/

/-- The kind of a record (R136). -/
inductive RecordKind where
  | call
  | free
  | recovery
  deriving DecidableEq, Repr

/-- A record (R136). -/
structure CallRecord where
  sequence : Word16
  kind : RecordKind
  position : PosId
  card : Option CardKey
  cls : Option (Fin 16)
  setup : Word32
  answer : Option Word32
  duration : Word32
  segments : List Segment
  merged : Bool
  charged : Nat
  units : Units
  owedIn : Option Nat
  resolution : Option Resolution
  endCause : EndCause
  deriving DecidableEq, Repr

/-- The record queue, oldest record first (R135). -/
structure RecordQueue where
  records : List CallRecord
  nextSequence : Word16
  deriving DecidableEq, Repr

/-! ### Accounting unit -/

/-- The six live totals (R145). -/
structure Totals where
  charged : Word32
  burned : Word32
  writtenOff : Word32
  answered : Word32
  freeCalls : Word32
  recordsWritten : Word32
  deriving DecidableEq, Repr

/-- The seven period counters of an engine (R147). -/
structure EngineCounts where
  grants : Nat
  done : Nat
  notTaken : Nat
  timeout : Nat
  cardGone : Nat
  busFault : Nat
  abandoned : Nat
  deriving DecidableEq, Repr

/-- The five global period counters (R147). -/
structure GlobalCounts where
  withdrawals : Nat
  evictions : Nat
  debtLimits : Nat
  forgone : Nat
  discarded : Nat
  deriving DecidableEq, Repr

/-- One count of the snapshot set with its overflow mark (R148). -/
structure SnapCount where
  count : Nat
  overflow : Bool
  deriving DecidableEq, Repr

/-- The snapshot set (R148): its forty counts in the order of R150, and its stamp. -/
structure SnapshotSet where
  counts : List SnapCount
  stamp : Word32
  deriving DecidableEq, Repr

/-- The accounting unit (R145 to R149). `intervalLeft` is the count of the snapshot interval timer in seconds;
`intervalDue` marks an expiry of it that has come and is not yet taken, which no snapshot taken before it takes away
(R149). -/
structure Accounting where
  totals : Totals
  engines : Vector EngineCounts 5
  global : GlobalCounts
  snapshot : Option SnapshotSet
  interval : Nat
  intervalLeft : Nat
  intervalDue : Bool
  deriving DecidableEq, Repr

/-! ### Link controller -/

/-- The receiver (R154): in a frame it holds the bytes after the sync byte. -/
inductive Receiver where
  | hunting
  | inFrame (bytes : List Byte)
  deriving DecidableEq, Repr

/-- The link controller (R152 to R162). `handed` is a good request handed on and not yet taken by its owner (R155),
`response` the response frame in transmission, `newRate` an accepted rate that waits for its response to be sent
(R152). -/
structure Link where
  receiver : Receiver
  answerPending : Bool
  handed : Option Instr
  response : Option (List Byte)
  rate : Fin 5
  newRate : Option (Fin 5)
  tearEvicted : Bool
  snapshotReady : Bool
  linkError : Bool
  attnMask : BitVec 3
  stamp : Word32
  deriving DecidableEq, Repr

/-! ### The machine -/

/-- The whole block, and the queue of commands that wait. -/
structure State where
  positions : Vector Position 48
  depths : Depths
  settings : Settings
  tariff : TariffStore
  engines : Vector Engine 5
  tear : TearList
  queue : RecordQueue
  acct : Accounting
  link : Link
  pending : List Instr
  deriving DecidableEq, Repr

/-- Reasons to stop with a fault. There is none: the spec gives every command an effect in every state. -/
inductive Fault
  deriving DecidableEq, Repr

/-- Reasons to refuse a command. -/
inductive Refusal where
  /-- Raised by an arm of `exec` whose command has no meaning yet, with the row's mnemonic. Safe: nothing is claimed of
  a command that does not run. No arm raises it now. -/
  | notModelled (mnemonic : String)
  deriving DecidableEq, Repr

/-! ### Power-on reset -/

/-- An input after power-on: UNKNOWN, no sample, run 0 (R2, R14). -/
def Input.unknown {α : Type} : Input α := { accepted := none, last := none, run := 0 }

/-- A position after power-on (R2, R14, R16, R79). -/
def Position.reset : Position where
  hook := .unknown
  card := .unknown
  line := .unknown
  freezeMark := false
  lineEnable := false
  forcedClear := false
  tone := false
  unitTimer := { count := 0, running := false }
  oneShot := { kind := .stopped, count := 0 }
  state := .vacant
  profile := .card
  refusal := none
  identity := none
  remaining := 0
  faulty := false
  debt := 0
  doubt := none
  retry := 0
  pendingOp := none
  inFlight := none
  allocation := .home
  relieved := false
  pendingAlloc := none
  call := none
  recovery := none
  reservation := false
  blockPending := false
  cardLost := false
  cardLeft := false
  changed := false
  notice := none

/-- An undefined tariff entry (R46). -/
def TariffEntry.undefined : TariffEntry :=
  { defined := false, period := 0, step := 1, initial := 0, follow := false }

/-- A table with every entry undefined (R45). -/
def TariffTable.undefined : TariffTable := Vector.replicate 16 (Vector.replicate 4 .undefined)

/-- An engine after power-on (R90, R97, R99); the mark of auto-relief is on at E0 to E3, and ER holds none. -/
def Engine.reset (autoRelief : Bool) : Engine where
  lane := .testing
  testTimeLeft := Config.busTestMs
  op := none
  laneReset := false
  disablePending := false
  mode := .fixed
  pointer := 0
  grantLength := 4
  burst := 0
  autoRelief := autoRelief

/-- Live totals after power-on (R145). -/
def Totals.zero : Totals :=
  { charged := 0, burned := 0, writtenOff := 0, answered := 0, freeCalls := 0, recordsWritten := 0 }

/-- Period counters of an engine at 0 (R147, R148). -/
def EngineCounts.zero : EngineCounts :=
  { grants := 0, done := 0, notTaken := 0, timeout := 0, cardGone := 0, busFault := 0, abandoned := 0 }

/-- Global period counters at 0 (R147, R148). -/
def GlobalCounts.zero : GlobalCounts :=
  { withdrawals := 0, evictions := 0, debtLimits := 0, forgone := 0, discarded := 0 }

/-- The machine right after power-on reset, with no command waiting (R14, R16, R45, R64, R79, R90, R97, R99, R116,
R135, R144, R151, R162, R163). -/
def State.reset : State where
  positions := Vector.replicate 48 Position.reset
  depths := { hook := 4, card := 6, line := 2 }
  settings := { urgency := 3, answerWait := 90, clearWait := 20 }
  tariff := { active := .undefined, staged := .undefined, edition := 0, band := 0 }
  engines := #v[Engine.reset true, Engine.reset true, Engine.reset true, Engine.reset true, Engine.reset false]
  tear := { entries := [], lastEviction := none }
  queue := { records := [], nextSequence := 0 }
  acct :=
    { totals := .zero, engines := Vector.replicate 5 .zero, global := .zero, snapshot := none, interval := 0,
      intervalLeft := 0, intervalDue := false }
  link :=
    { receiver := .hunting, answerPending := false, handed := none, response := none, rate := 1, newRate := none,
      tearEvicted := false, snapshotReady := false, linkError := false, attnMask := 7, stamp := 0 }
  pending := []

end Sys2Proof.Machine
end

