-- ==== Sys2Proof/Machine/Ops.lean ====
section
/-!
DEFINITION. The shared operations: reading and changing one position or engine, the reports to the accounting unit,
record writes, the tear list, the changes of a position's state with the outputs and timers they bring, the passing of
debt, the ends of calls and recoveries, the derivation of card operations, and the arbiters.
-/

namespace Sys2Proof.Machine

/-- What a command answers. -/
abbrev Result := Host.Outcome State Fault Refusal

/-- The positions in ascending order. -/
def allPositions : List PosId := List.finRange 48

/-- The engines in the order E0 to E3, ER. -/
def allEngines : List EngineId := List.finRange 5

/-- The relief engine ER. -/
def reliefEngine : EngineId := 4

/-- The lane engine of a position: E(p div 12) (00 Positions). -/
def homeEngine (p : PosId) : EngineId := ⟨p.val / 12, by omega⟩

/-- The engine an allocation names (R107). -/
def engineOf (p : PosId) : Allocation → EngineId
  | .home => homeEngine p
  | .relief => reliefEngine

/-- Reader index of a position on an engine's bus (00 Positions, R82). -/
def readerIndex (e : EngineId) (p : PosId) : Nat := if e = reliefEngine then p.val else p.val % 12

/-- Number of readers on an engine's bus. -/
def busSize (e : EngineId) : Nat := if e = reliefEngine then 48 else 12

/-! ### One position, one engine -/

/-- The record of a position. -/
def State.pos (s : State) (p : PosId) : Position := s.positions[p.val]

/-- Change one position. -/
def State.modPos (s : State) (p : PosId) (f : Position → Position) : State :=
  { s with positions := s.positions.set p.val (f (s.pos p)) }

/-- Change every position. -/
def State.mapPos (s : State) (f : PosId → Position → Position) : State :=
  { s with positions := Vector.ofFn fun p => f p (s.pos p) }

/-- The state of an engine. -/
def State.eng (s : State) (e : EngineId) : Engine := s.engines[e.val]

/-- Change one engine. -/
def State.modEng (s : State) (e : EngineId) (f : Engine → Engine) : State :=
  { s with engines := s.engines.set e.val (f (s.eng e)) }

/-- Change every engine. -/
def State.mapEng (s : State) (f : EngineId → Engine → Engine) : State :=
  { s with engines := Vector.ofFn fun e => f e (s.eng e) }

/-- Change the link controller. -/
def State.modLink (s : State) (f : Link → Link) : State := { s with link := f s.link }

/-- Change the tear list. -/
def State.modTear (s : State) (f : TearList → TearList) : State := { s with tear := f s.tear }

/-- Change the accounting unit. -/
def State.modAcct (s : State) (f : Accounting → Accounting) : State := { s with acct := f s.acct }

/-- Change the tariff store. -/
def State.modTariff (s : State) (f : TariffStore → TariffStore) : State := { s with tariff := f s.tariff }

/-- Change the settings of the position controller. -/
def State.modSettings (s : State) (f : Settings → Settings) : State := { s with settings := f s.settings }

/-- Change the de-bounce depths. -/
def State.modDepths (s : State) (f : Depths → Depths) : State := { s with depths := f s.depths }

/-- Change the record queue. -/
def State.modQueue (s : State) (f : RecordQueue → RecordQueue) : State := { s with queue := f s.queue }

/-! ### Reports to the accounting unit -/

/-- A live total advanced by n, modulo 2^32 (R145). -/
def advance (t : Word32) (n : Nat) : Word32 := t + BitVec.ofNat 32 n

/-- A period counter advanced by n, stopping at 65535 (R147). -/
def saturate (c n : Nat) : Nat := min Config.counterTop (c + n)

/-- Advance live totals. -/
def State.modTotals (s : State) (f : Totals → Totals) : State :=
  s.modAcct fun a => { a with totals := f a.totals }

/-- Units charged (R66). -/
def State.reportCharged (s : State) (n : Nat) : State :=
  s.modTotals fun t => { t with charged := advance t.charged n }

/-- Units counted as burned (R74, R76, R77, R127). -/
def State.reportBurned (s : State) (n : Nat) : State :=
  s.modTotals fun t => { t with burned := advance t.burned n }

/-- Units written off (R78, R122, R123, R127, R128, R132). -/
def State.reportWrittenOff (s : State) (n : Nat) : State :=
  s.modTotals fun t => { t with writtenOff := advance t.writtenOff n }

/-- Advance a global period counter. -/
def State.modGlobal (s : State) (f : GlobalCounts → GlobalCounts) : State :=
  s.modAcct fun a => { a with global := f a.global }

/-- Advance a period counter of an engine. -/
def State.modCounts (s : State) (e : EngineId) (f : EngineCounts → EngineCounts) : State :=
  s.modAcct fun a => { a with engines := a.engines.set e.val (f a.engines[e.val]) }

/-- The counter that a completion with an outcome advances (R147); READ, CHECK_FAIL, NO_CARD and ANOMALY advance
none. -/
def EngineCounts.completed (o : OpOutcome) (c : EngineCounts) : EngineCounts :=
  match o with
  | .done _ => { c with done := saturate c.done 1 }
  | .notTaken _ => { c with notTaken := saturate c.notTaken 1 }
  | .timeout => { c with timeout := saturate c.timeout 1 }
  | .cardGone => { c with cardGone := saturate c.cardGone 1 }
  | .busFault => { c with busFault := saturate c.busFault 1 }
  | .abandoned => { c with abandoned := saturate c.abandoned 1 }
  | .read _ | .checkFail | .noCard | .anomaly _ => c

/-! ### Facts of a position -/

/-- The states of a call before its clearing, in which line enable is on (R10). -/
def PosState.inCall : PosState → Bool
  | .routed | .metering | .lastUnit | .freeCall => true
  | .vacant | .reading | .refused | .recovering | .ready | .clearing | .blocked => false

/-- The states in which the unit timer runs (R62). -/
def PosState.metered : PosState → Bool
  | .metering | .lastUnit => true
  | .vacant | .reading | .refused | .recovering | .ready | .routed | .freeCall | .clearing | .blocked => false

/-- The card contact is accepted PRESENT; UNKNOWN is not (R5). -/
def Position.present (x : Position) : Bool := x.card.accepted = some .present

/-- A position is frozen by its mark or by profile UNUSED (R2). -/
def Position.frozen (x : Position) : Bool := x.freezeMark || x.profile = .unused

/-- The key of the card the position holds. -/
def Position.key (x : Position) : Option CardKey := x.identity.map (·.key)

/-- Waiting in RECOVERING for a reservation: a member of the wait set (R125, R135). -/
def Position.waiting (x : Position) : Bool := x.state = .recovering && !x.reservation

/-- Change the call context, where there is one. -/
def Position.mapCall (f : Call → Call) (x : Position) : Position := { x with call := x.call.map f }

/-- Change the unit counts of the position's call, or of its recovery where it has no call. -/
def Position.mapUnits (f : Units → Units) (x : Position) : Position :=
  match x.call with
  | some c => { x with call := some { c with units := f c.units } }
  | none => { x with recovery := x.recovery.map fun r => { r with units := f r.units } }

/-- Unit counts at the start of a call (R27). -/
def Units.zero : Units := { burned := 0, writtenOff := 0, owedOut := 0, doubtOut := 0, anomaly := false }

/-! ### Changes of a position's state -/

/-- Stop a one-shot timer: kind none, count kept (R63). -/
def OneShot.stop (t : OneShot) : OneShot := { t with kind := .stopped }

/-- A change of state (R19): the outputs of the new state (R10 to R12), the one-shot timer stopped, the unit timer
running exactly in METERING and LAST_UNIT (R62), no refusal cause, the changed mark set (R42). The states that start a
one-shot timer, a tone or a forced clear, or that carry a cause, add it to this. -/
def Position.enter (st : PosState) (x : Position) : Position :=
  { x with
    state := st
    lineEnable := st.inCall
    forcedClear := false
    tone := false
    oneShot := x.oneShot.stop
    unitTimer := { x.unitTimer with running := st.metered }
    refusal := none
    changed := true }

/-- The card facts that go at an arrival in VACANT or BLOCKED and at a withdrawal in FREE_CALL (R18). -/
def Position.forgetCard (x : Position) : Position :=
  { x with identity := none, remaining := 0, faulty := false, retry := 0 }

/-- Arrival in BLOCKED (R39, R16). -/
def Position.arriveBlocked (x : Position) : Position :=
  { (x.forgetCard.enter .blocked) with blockPending := false, cardLeft := false }

/-- Entry into READING with the retry count 0 (R20). -/
def Position.startReading (x : Position) : Position := { (x.enter .reading) with retry := 0 }

/-- Arrival in VACANT: BLOCKED where block pending is set (R39); on to READING where the card contact is accepted
PRESENT and the profile is CARD (R36, R40, R130; notes/assumptions/21.md). -/
def Position.arriveVacant (x : Position) : Position :=
  if x.blockPending then x.arriveBlocked
  else
    let y := { (x.forgetCard.enter .vacant) with cardLeft := false }
    if x.present && x.profile = .card then y.startReading else y

/-- Arrival in REFUSED with a cause (R24), or in BLOCKED where block pending is set (R39). -/
def Position.arriveRefused (why : RefusalCause) (x : Position) : Position :=
  if x.blockPending then x.arriveBlocked else { (x.enter .refused) with refusal := some why }

/-- Arrival in READY where the tear list is known to hold nothing for the card (notes/assumptions/13.md), or in BLOCKED
where block pending is set (R39). -/
def Position.arriveReadyUnlisted (x : Position) : Position :=
  if x.blockPending then x.arriveBlocked else x.enter .ready

/-- A waiting position leaves RECOVERING when its entry has left the list (R126). -/
def Position.leaveWait (x : Position) : Position :=
  if x.remaining = 0 then x.arriveRefused .empty else x.arriveReadyUnlisted

/-- Entry into LAST_UNIT: tone on, TONE timing started (R12, R70). -/
def Position.enterLastUnit (x : Position) : Position :=
  { (x.enter .lastUnit) with tone := true, oneShot := { kind := .tone, count := Config.tonePeriods } }

/-- Entry into CLEARING (R31, R11): forced clear and CLEAR_WAIT where the accepted line code is not IDLE. -/
def Position.enterClearing (wait : Nat) (x : Position) : Position :=
  let y := x.enter .clearing
  if x.line.accepted = some .idle then y
  else { y with forcedClear := true, oneShot := { kind := .clearWait, count := wait } }

/-- The end cause and the duration, fixed at the entry into CLEARING or at RESTART (R17, R31, R44). -/
def Call.finish (why : EndCause) (now : Word32) (c : Call) : Call :=
  { c with
    endCause := some why
    duration := match c.answer with
      | none => 0
      | some a => now - a }

/-- An ender takes a position to CLEARING (R31). -/
def State.endCall (s : State) (p : PosId) (why : EndCause) : State :=
  s.modPos p fun x =>
    (x.mapCall (·.finish why s.link.stamp)).enterClearing (s.settings.clearWait * 10)

/-! ### The record queue -/

/-- Reservations held (R135): a view of the positions. -/
def State.reservations (s : State) : Nat := (allPositions.filter fun p => (s.pos p).reservation).length

/-- Places taken, by records and reservations alike (R135). -/
def State.placesTaken (s : State) : Nat := s.queue.records.length + s.reservations

/-- Whether the record queue admits a claim (R138). -/
def State.admits (s : State) : Bool := s.placesTaken < Config.queuePlaces

/-- The wait set in ascending order (R135). -/
def State.waitSet (s : State) : List PosId := allPositions.filter fun p => (s.pos p).waiting

/-- A record write (R140): the record is appended with the next sequence and counted. The reservation it uses is
given up by the caller in the same event. -/
def State.writeRecord (s : State) (r : Word16 → CallRecord) : State :=
  (s.modQueue fun q =>
    { records := q.records ++ [r q.nextSequence], nextSequence := q.nextSequence + 1 }).modTotals
      fun t => { t with recordsWritten := advance t.recordsWritten 1 }

/-- What a FREE record shows of the counts (R136): nothing. -/
def Call.recorded (c : Call) : Call :=
  match c.kind with
  | .call => c
  | .free => { c with segments := [], merged := false, charged := 0, units := .zero }

/-- The record of a call (R136). -/
def Call.record (c : Call) (p : PosId) (card : Option CardKey) (seq : Word16) : CallRecord :=
  let r := c.recorded
  { sequence := seq
    kind := match c.kind with
      | .call => .call
      | .free => .free
    position := p
    card := card
    cls := some c.cls
    setup := c.setup
    answer := c.answer
    duration := c.duration
    segments := r.segments
    merged := r.merged
    charged := r.charged
    units := r.units
    owedIn := none
    resolution := none
    endCause := c.endCause.getD .restart }

/-- The record of a recovery (R136). -/
def Recovery.record (r : Recovery) (p : PosId) (card : Option CardKey) (why : EndCause) (seq : Word16) : CallRecord :=
  { sequence := seq
    kind := .recovery
    position := p
    card := card
    cls := none
    setup := r.start
    answer := none
    duration := 0
    segments := []
    merged := false
    charged := 0
    units := r.units
    owedIn := some r.owedIn
    resolution := some r.resolution
    endCause := why }

/-- The call record is written into the position's reservation and the call context is discarded (R36, R140). -/
def State.closeCall (s : State) (p : PosId) : State :=
  match (s.pos p).call with
  | none => s
  | some c =>
    (s.writeRecord (c.record p (s.pos p).key)).modPos p fun x => { x with call := none, reservation := false }

/-- The RECOVERY record is written into the position's reservation and the recovery field discarded (R37, R140). -/
def State.closeRecovery (s : State) (p : PosId) (why : EndCause) : State :=
  match (s.pos p).recovery with
  | none => s
  | some r =>
    (s.writeRecord (r.record p (s.pos p).key why)).modPos p fun x => { x with recovery := none, reservation := false }

/-! ### The tear list -/

/-- The entry of a key (R124). -/
def State.tearEntry (s : State) (k : CardKey) : Option TearEntry := s.tear.entries.find? fun t => t.key = k

/-- Whether the card the position holds is listed (R124). -/
def State.listed (s : State) (x : Position) : Bool :=
  match x.key with
  | none => false
  | some k => (s.tearEntry k).isSome

/-- The units an entry carries, the doubted one included (R116). -/
def TearEntry.total (t : TearEntry) : Nat := t.owed + (if t.inDoubt.isSome then 1 else 0)

/-- The entry of a key leaves the list, the others keeping their order (R116). -/
def TearList.remove (k : CardKey) (l : TearList) : TearList :=
  { l with entries := l.entries.filter fun t => t.key ≠ k }

/-- Every position that waits in RECOVERING for a key whose entry has left the list leaves RECOVERING (R126). -/
def State.releaseWaiters (s : State) (k : CardKey) : State :=
  s.mapPos fun _ x => if x.waiting && x.key = some k then x.leaveWait else x

/-- Every READY position that holds the key is handed a listed-card notice (R124). -/
def State.handNotices (s : State) (k : CardKey) : State :=
  s.mapPos fun _ x => if x.state = .ready && x.key = some k then { x with notice := some k } else x

/-- The eviction of the oldest entry (R123). -/
def State.evict (s : State) (t : TearEntry) : State :=
  let d := if t.inDoubt.isSome then 1 else 0
  let s1 := s.modTear fun l =>
    { entries := l.entries.tail
      lastEviction := some { key := t.key, owed := t.owed, inDoubt := d, stamp := s.link.stamp } }
  let s2 := s1.reportWrittenOff t.total
  let s3 := s2.modGlobal fun g => { g with evictions := saturate g.evictions 1 }
  let s4 := s3.modLink fun l => { l with tearEvicted := true }
  s4.releaseWaiters t.key

/-- Two creations for one key made one entry, before the cap at 8 (R122). -/
def TearEntry.merge (old new : TearEntry) : TearEntry :=
  { new with
    owed := old.owed + new.owed + (if old.inDoubt.isSome && new.inDoubt.isSome then 1 else 0)
    inDoubt := match old.inDoubt with
      | some b => some b
      | none => new.inDoubt }

/-- An entry is appended at the newest place (R121). -/
def State.appendEntry (s : State) (t : TearEntry) : State :=
  s.modTear fun l => { l with entries := l.entries ++ [t] }

/-- A merge into the entry of the same key, which moves to the newest place; the units above 8 are written off
(R122). -/
def State.mergeEntry (s : State) (old new : TearEntry) : State :=
  let m := old.merge new
  let s1 := (s.modTear (·.remove new.key)).appendEntry { m with owed := min Config.tearOwedMax m.owed }
  s1.reportWrittenOff (m.owed - Config.tearOwedMax)

/-- The tear list takes a creation request (R121 to R124). -/
def State.createEntry (s : State) (t : TearEntry) : State :=
  let s1 :=
    match s.tearEntry t.key with
    | some old => s.mergeEntry old t
    | none =>
      match s.tear.entries with
      | oldest :: _ =>
        if s.tear.entries.length < Config.tearPlaces then s.appendEntry t else (s.evict oldest).appendEntry t
      | [] => s.appendEntry t
  s1.handNotices t.key

/-- The passing of a position's debt to the tear list (R117). -/
def State.passDebt (s : State) (p : PosId) : State :=
  let x := s.pos p
  match x.identity with
  | none => s.modPos p fun y => { y with cardLost := false }
  | some id =>
    if x.debt = 0 && x.doubt.isNone then s.modPos p fun y => { y with cardLost := false }
    else
      let d := if x.doubt.isSome then 1 else 0
      let owed := x.debt - d
      let t : TearEntry :=
        { key := id.key, face := id.face, owed := owed, inDoubt := x.doubt, origin := p, stamp := s.link.stamp }
      let s1 := s.modPos p fun y =>
        { (y.mapUnits fun u => { u with owedOut := u.owedOut + owed, doubtOut := u.doubtOut + d }) with
          debt := 0, doubt := none, cardLost := false }
      s1.createEntry t

/-! ### Recovery -/

/-- The recovery's debt is settled (R37, R129). -/
def Position.recoveryDone (x : Position) : Bool :=
  x.state = .recovering && x.recovery.isSome && x.debt = 0 && x.doubt.isNone && x.inFlight.isNone && x.present &&
    !x.cardLost

/-- The end cause of a recovery whose debt is settled (R37). -/
def Position.recoveryCause (x : Position) : EndCause := if x.remaining = 0 then .empty else .complete

/-- How the doubted unit of an entry is resolved against the card's counter (R127). -/
def resolveDoubt (inDoubt : Option Nat) (remaining : Nat) : Resolution :=
  match inDoubt with
  | none => .noDoubt
  | some before =>
    if remaining + 1 = before then .taken else if remaining = before then .notTaken else .anomaly

/-- What the resolution counts as burned at the hand-over (R127): TAKEN and the lower-counter ANOMALY. -/
def handOverBurned (inDoubt : Option Nat) (remaining : Nat) : Nat :=
  match inDoubt with
  | none => 0
  | some before => if remaining < before then 1 else 0

/-- What the resolution writes off at the hand-over (R127): the higher-counter ANOMALY. -/
def handOverLost (inDoubt : Option Nat) (remaining : Nat) : Nat :=
  match inDoubt with
  | none => 0
  | some before => if before < remaining then 1 else 0

/-- The units a hand-over puts to the position before the cut (R128). -/
def handOverOwed (t : TearEntry) (remaining : Nat) : Nat :=
  t.owed + (if t.inDoubt = some remaining then 1 else 0)

/-- The debt a hand-over sets (R128). -/
def handOverDebt (t : TearEntry) (remaining : Nat) : Nat :=
  min (handOverOwed t remaining) (min Config.debtCeiling remaining)

/-- The recovery field and debt that a hand-over sets (R127, R128). -/
def Position.takeOver (t : TearEntry) (now : Word32) (x : Position) : Position :=
  let debt := handOverDebt t x.remaining
  let res := resolveDoubt t.inDoubt x.remaining
  { x with
    debt := debt
    doubt := none
    retry := 0
    recovery := some
      { owedIn := t.owed
        resolution := res
        start := now
        units :=
          { burned := handOverBurned t.inDoubt x.remaining
            writtenOff := handOverOwed t x.remaining - debt + handOverLost t.inDoubt x.remaining
            owedOut := 0
            doubtOut := 0
            anomaly := res = .anomaly } } }

/-- A recovery that is settled at its hand-over ends in the same event (R128); its entry has just left the list. -/
def State.settleHandOver (s : State) (p : PosId) : State :=
  let x := s.pos p
  if x.recoveryDone then
    (s.closeRecovery p x.recoveryCause).modPos p fun y =>
      if y.remaining = 0 then y.arriveRefused .empty else y.arriveReadyUnlisted
  else s

/-- The hand-over of the entry of the position's card (R127, R128, R126). -/
def State.handOver (s : State) (p : PosId) : State :=
  let x := s.pos p
  match x.key with
  | none => s
  | some k =>
    match s.tearEntry k with
    | none => s
    | some t =>
      let s1 := s.modTear (·.remove k)
      let s2 := s1.reportBurned (handOverBurned t.inDoubt x.remaining)
      let s3 := s2.reportWrittenOff
        (handOverOwed t x.remaining - handOverDebt t x.remaining + handOverLost t.inDoubt x.remaining)
      let s4 := s3.modPos p (·.takeOver t s.link.stamp)
      (s4.releaseWaiters k).settleHandOver p

/-- A position claims its reservation and takes its entry (R125, R138, R141). -/
def State.admitRecovery (s : State) (p : PosId) : State :=
  (s.modPos p fun x => { x with reservation := true }).handOver p

/-- Entry into RECOVERING (R125): the claim, and the hand-over where it is admitted; otherwise the wait. -/
def State.enterRecovering (s : State) (p : PosId) : State :=
  let s1 := s.modPos p (·.enter .recovering)
  if s1.admits then s1.admitRecovery p else s1

/-- Arrival in READY (R21, R39, R124): BLOCKED where block pending is set, RECOVERING where the card is listed. -/
def State.arriveReady (s : State) (p : PosId) : State :=
  let x := s.pos p
  if x.blockPending then s.modPos p (·.arriveBlocked)
  else if s.listed x then s.enterRecovering p
  else s.modPos p (·.enter .ready)

/-- The end of a recovery whose debt is settled (R37, R129). -/
def State.finishRecovery (s : State) (p : PosId) : State :=
  let x := s.pos p
  let s1 := s.closeRecovery p x.recoveryCause
  if x.remaining = 0 then s1.modPos p (·.arriveRefused .empty) else s1.arriveReady p

/-- The end of a recovery whose card has left (R130): record, then VACANT or BLOCKED. -/
def State.loseRecovery (s : State) (p : PosId) : State :=
  ((s.passDebt p).closeRecovery p .cardWithdrawn).modPos p (·.arriveVacant)

/-! ### The finish of CLEARING -/

/-- The three conditions of R35. -/
def Position.clearingDone (x : Position) : Bool :=
  x.state = .clearing && !x.forcedClear && x.debt = 0 && x.doubt.isNone && !x.cardLost && x.inFlight.isNone

/-- The finish of CLEARING (R36): the record, then the first state whose test holds. -/
def State.finishClearing (s : State) (p : PosId) : State :=
  let x := s.pos p
  let s1 := s.closeCall p
  if x.blockPending then s1.modPos p (·.arriveBlocked)
  else if x.cardLeft || !x.present then s1.modPos p (·.arriveVacant)
  else if x.faulty then s1.modPos p (·.arriveRefused .faulty)
  else if s1.listed x then s1.enterRecovering p
  else if x.identity.isNone && x.present && x.profile = .card then s1.modPos p (·.startReading)
  else if x.identity.isNone then s1.modPos p (·.arriveVacant)
  else if x.remaining = 0 then s1.modPos p (·.arriveRefused .empty)
  else s1.modPos p (·.arriveReadyUnlisted)

/-- What a position tests at each event it takes: the finish of CLEARING (R35) and the end of a recovery (R129). -/
def State.settle (s : State) (p : PosId) : State :=
  let x := s.pos p
  if x.clearingDone then s.finishClearing p
  else if x.recoveryDone then s.finishRecovery p
  else s

/-! ### Derivation and arbitration -/

/-- The card operation a position needs (R100). -/
def Position.derived (x : Position) : Option CardOp :=
  if x.state = .reading && x.identity.isNone then some .identify
  else if x.doubt.isSome && x.present && !x.cardLost && !x.faulty then some .verify
  else if 0 < x.debt && x.present && !x.cardLost && !x.faulty then some .burn
  else none

/-- The derivation (R101): made where nothing is in flight; the candidate follows from it. -/
def Position.derive (x : Position) : Position :=
  if x.inFlight.isSome then x else { x with pendingOp := x.derived }

/-- The candidate set of an engine in ascending order (R99, R101): a view of the positions. -/
def State.candidates (s : State) (e : EngineId) : List PosId :=
  allPositions.filter fun p => (s.pos p).pendingOp.isSome && engineOf p (s.pos p).allocation = e

/-- The urgency classes (R102). -/
inductive Urgency where
  | a
  | b
  | c
  deriving DecidableEq, Repr

/-- The urgency class of a candidate (R72, R102). -/
def Position.urgency (threshold : Nat) (x : Position) : Urgency :=
  if x.state = .clearing || (threshold ≤ x.debt && x.pendingOp != some .identify) then .a
  else if x.pendingOp = some .identify then .b
  else .c

/-- The members of a class at an engine. -/
def State.members (s : State) (e : EngineId) (u : Urgency) : List PosId :=
  (s.candidates e).filter fun p => (s.pos p).urgency s.settings.urgency = u

/-- The candidate an order mode takes from a class in ascending order (R103). -/
def pick (mode : OrderMode) (e : EngineId) (pointer : Nat) (ps : List PosId) : Option PosId :=
  match mode with
  | .fixed => ps.head?
  | .rotating =>
    match ps.find? fun p => pointer ≤ readerIndex e p with
    | some p => some p
    | none => ps.head?

/-- The arbiter's choice (R102, R103). -/
def State.choose (s : State) (e : EngineId) : Option PosId :=
  let take := fun u => pick (s.eng e).mode e (s.eng e).pointer (s.members e u)
  match take .a with
  | some p => some p
  | none =>
    match take .b with
    | some p => some p
    | none => take .c

/-- Whether a lane is usable: IN_SERVICE or SUSPECT (05 section 5.6). -/
def LaneState.usable : LaneState → Bool
  | .inService | .suspect => true
  | .testing | .faulted | .disabled => false

/-- Whether an engine may grant (R90): usable, disable pending no, nothing in flight. -/
def Engine.free (g : Engine) : Bool := g.lane.usable && !g.disablePending && g.op.isNone

/-- A grant (R104): the operation begins its first step; a BURN takes the counter before and the card's key (R88). -/
def State.grant (s : State) (e : EngineId) (p : PosId) (op : CardOp) (pointer burst : Nat) : State :=
  let x := s.pos p
  let s1 := s.modPos p fun y =>
    { y with pendingOp := none, inFlight := some { engine := e, op := op, discard := false } }
  let s2 := s1.modEng e fun g =>
    { g with
      op := some
        { position := p, op := op, step := .select, before := x.remaining, key := if op = .burn then x.key else none }
      pointer := pointer
      burst := burst }
  s2.modCounts e fun c => { c with grants := saturate c.grants 1 }

/-- An arbitration at an engine (R104). -/
def State.arbitrate (s : State) (e : EngineId) : State :=
  if (s.eng e).free then
    match s.choose e with
    | none => s
    | some p =>
      match (s.pos p).pendingOp with
      | none => s
      | some op => s.grant e p op ((readerIndex e p + 1) % busSize e) 1
  else s

/-- Every engine that is idle and usable after an event arbitrates (R104). -/
def State.serve (s : State) : State := allEngines.foldl State.arbitrate s

/-- The derivation of one position. -/
def State.derive (s : State) (p : PosId) : State := s.modPos p (·.derive)

/-- The end of an event at a position: its tests (R35, R129), its derivation (R101), and the arbitrations it brings
(R104). -/
def State.conclude (s : State) (p : PosId) : State := ((s.settle p).derive p).serve

/-! ### Allocation -/

/-- Auto-relief of one position (R110). -/
def Position.relieve (x : Position) : Position :=
  { x with allocation := .relief, relieved := true, changed := true }

/-- Whether auto-relief acts at an engine (R109): a FAULTED lane engine whose mark is on. -/
def State.relieves (s : State) (e : EngineId) : Bool :=
  e != reliefEngine && (s.eng e).lane = .faulted && (s.eng e).autoRelief

/-- Auto-relief of every position allocated HOME to a lane engine (R110), where it acts. -/
def State.relieveLane (s : State) (e : EngineId) : State :=
  if s.relieves e then
    s.mapPos fun p x => if homeEngine p = e && x.allocation = .home then x.relieve else x
  else s

/-- An allocation takes a value (R107, R108), and a position made HOME at a FAULTED lane is relieved (R109). -/
def State.setAllocation (s : State) (p : PosId) (a : Allocation) : State :=
  if (s.pos p).allocation = a then s
  else
    let s1 := s.modPos p fun x => { x with allocation := a, changed := true }
    if a = .home && s1.relieves (homeEngine p) then s1.modPos p (·.relieve) else s1

/-- A pending allocation is applied at a completion (R108). -/
def State.applyPendingAllocation (s : State) (p : PosId) : State :=
  match (s.pos p).pendingAlloc with
  | none => s
  | some a => (s.modPos p fun x => { x with pendingAlloc := none }).setAllocation p a

/-- The relieved positions of a lane are taken home (R111). -/
def State.takeHome (s : State) (e : EngineId) : State :=
  s.mapPos fun p x =>
    if homeEngine p = e && x.relieved then
      if x.inFlight.isSome then { x with relieved := false, pendingAlloc := some .home }
      else { x with relieved := false, allocation := .home, changed := true }
    else x

/-! ### Time -/

/-- One millisecond of the device timebase on an empty queue: it is taken from the bus tests that run
(DESIGN CHOICE, notes/assumptions/9.md). -/
def State.idleMillisecond (s : State) : State :=
  s.mapEng fun _ g => if g.lane = .testing then { g with testTimeLeft := g.testTimeLeft - 1 } else g

end Sys2Proof.Machine
end

