-- ==== Sys2Proof/Machine/Flags.lean ====
section
/-!
DEFINITION. The flags the station controller sees: the change set, the alerts and the ATTN output. The level alerts,
the change set and ATTN are views of the state they stand for (R157, R159, R160). So is the reader select of a bus
(R82).
-/

namespace Sys2Proof.Machine

/-- The change set in ascending order (R157): the positions whose changed mark is set. -/
def State.changeSet (s : State) : List PosId := allPositions.filter fun p => (s.pos p).changed

/-- LANE_FAULTED of an engine (R159): stands while its lane is FAULTED. -/
def State.laneFaulted (s : State) (e : EngineId) : Bool := (s.eng e).lane = .faulted

/-- ADMISSION_HELD (R139): stands while records and reservations fill the queue. -/
def State.admissionHeld (s : State) : Bool := s.placesTaken = Config.queuePlaces

/-- The value of an alert in the alert set, where it stands. -/
def alertValue (stands : Bool) (value : Word16) : Word16 := if stands then value else 0

/-- The alert set (R159): the sum of the values of the alerts standing. The values share no bit. -/
def State.alertSet (s : State) : Word16 :=
  alertValue (s.laneFaulted 0) 0x0001 ||| alertValue (s.laneFaulted 1) 0x0002 |||
  alertValue (s.laneFaulted 2) 0x0004 ||| alertValue (s.laneFaulted 3) 0x0008 |||
  alertValue (s.laneFaulted 4) 0x0010 ||| alertValue s.admissionHeld 0x0020 |||
  alertValue s.link.tearEvicted 0x0100 ||| alertValue s.link.snapshotReady 0x0200 |||
  alertValue s.link.linkError 0x0400

/-- At least one alert stands, level or latched (R160). -/
def State.alertStands (s : State) : Bool :=
  allEngines.any s.laneFaulted || s.admissionHeld || s.link.tearEvicted || s.link.snapshotReady || s.link.linkError

/-- The ATTN output (R160). -/
def State.attn (s : State) : Bool :=
  (s.link.attnMask.getLsbD 0 && !s.changeSet.isEmpty) ||
  (s.link.attnMask.getLsbD 1 && !s.queue.records.isEmpty) ||
  (s.link.attnMask.getLsbD 2 && s.alertStands)

/-- The reader an engine holds selected on its bus (R82): that of its operation in flight, up to the completion; none
while a lane reset runs (R84). -/
def State.selectedReader (s : State) (e : EngineId) : Option Nat :=
  match (s.eng e).op with
  | none => none
  | some o => if (s.eng e).laneReset then none else some (readerIndex e o.position)

end Sys2Proof.Machine
end

