-- ==== Sys2Proof/Machine/Operands.lean ====
section
/-!
DEFINITION. The operand forms of the requests (R165): a byte names a position, an engine, a mark, a profile, an
allocation, an order mode, a class, a band or a rate, or names nothing and is refused. Also the refusal codes (R156)
and what an owner answers.
-/

namespace Sys2Proof.Machine

/-- The refusal codes (R156). -/
inductive RefusalCode where
  | unknownRequest
  | badLength
  | badValue
  | badPosition
  | wrongState
  | onHook
  | badClass
  | tariffUndefined
  | insufficient
  | queueFull
  | noEngine
  | notOldest
  | empty
  | notFound
  deriving DecidableEq, Repr

/-- What the owner of a request returns (R155): acceptance with the response fields, or a refusal code. -/
inductive Reply where
  | accepted (fields : List Byte)
  | refused (code : RefusalCode)
  deriving DecidableEq, Repr

/-- A position field; none above 47 (BAD_POSITION). -/
def positionOf (b : Byte) : Option PosId := if h : b.toNat < 48 then some ⟨b.toNat, h⟩ else none

/-- An engine field: 0 to 3 for E0 to E3, 4 for ER; none above 4 (R94). -/
def engineOfByte (b : Byte) : Option EngineId := if h : b.toNat < 5 then some ⟨b.toNat, h⟩ else none

/-- A mark: 0 no or off, 1 yes or on (R164). -/
def markOf (b : Byte) : Option Bool := if b = 0 then some false else if b = 1 then some true else none

/-- A profile: 0 CARD, 1 FREE, 2 UNUSED (R165). -/
def profileOf (b : Byte) : Option Profile :=
  if b = 0 then some .card else if b = 1 then some .free else if b = 2 then some .unused else none

/-- An allocation: 0 HOME, 1 RELIEF (R165). -/
def allocationOf (b : Byte) : Option Allocation :=
  if b = 0 then some .home else if b = 1 then some .relief else none

/-- An order mode: 0 FIXED, 1 ROTATING (R164). -/
def orderModeOf (b : Byte) : Option OrderMode :=
  if b = 0 then some .fixed else if b = 1 then some .rotating else none

/-- A tariff class, 0 to 15. -/
def classOf (b : Byte) : Option (Fin 16) := if h : b.toNat < 16 then some ⟨b.toNat, h⟩ else none

/-- A band, 0 to 3. -/
def bandOf (b : Byte) : Option (Fin 4) := if h : b.toNat < 4 then some ⟨b.toNat, h⟩ else none

/-- A rate code, 0 to 4 (R152). -/
def rateOf (b : Byte) : Option (Fin 5) := if h : b.toNat < 5 then some ⟨b.toNat, h⟩ else none

/-- An owner that acts on one position: BAD_POSITION above 47, else the owner's rule for that position. -/
def onPosition (b : Byte) (rule : PosId → State → State × Reply) (s : State) : State × Reply :=
  match positionOf b with
  | none => (s, .refused .badPosition)
  | some p => rule p s

/-- An owner that acts on one engine: BAD_VALUE above 4, else the owner's rule for that engine. -/
def onEngine (b : Byte) (rule : EngineId → State → State × Reply) (s : State) : State × Reply :=
  match engineOfByte b with
  | none => (s, .refused .badValue)
  | some e => rule e s

/-- A refusal: no effect other than the response (00 Important, R155). -/
def refuse (s : State) (code : RefusalCode) : State × Reply := (s, .refused code)

/-- Acceptance with no response fields. -/
def accept (s : State) : State × Reply := (s, .accepted [])

end Sys2Proof.Machine
end

