-- ==== Sys2Proof/Machine/Layouts.lean ====
section
/-!
DEFINITION. The byte layouts of the station link (R153, R164): codes, the frame check, the response frame, and the
fields of each accepted response. A value that is absent is sent as zeros with its presence mark clear
(notes/assumptions/12.md). A count wider than its field is sent modulo the field (notes/assumptions/18.md).
-/

namespace Sys2Proof.Machine

/-! ### Numbers and codes -/

/-- One byte. -/
def byte1 (n : Nat) : List Byte := [BitVec.ofNat 8 n]

/-- Two bytes, most significant first. -/
def byte2 (n : Nat) : List Byte := bytes16 (BitVec.ofNat 16 n)

/-- A mark: 0 no or off, 1 yes or on. -/
def mark1 (b : Bool) : List Byte := [if b then 1 else 0]

def PosState.code : PosState → Nat
  | .vacant => 0
  | .reading => 1
  | .refused => 2
  | .recovering => 3
  | .ready => 4
  | .routed => 5
  | .metering => 6
  | .lastUnit => 7
  | .freeCall => 8
  | .clearing => 9
  | .blocked => 10

def RefusalCause.code : RefusalCause → Nat
  | .unreadable => 1
  | .foreign => 2
  | .empty => 3
  | .invalid => 4
  | .faulty => 5

def EndCause.code : EndCause → Nat
  | .hungUp => 16
  | .farEnd => 17
  | .noAnswer => 18
  | .exhausted => 19
  | .debtLimit => 20
  | .cardWithdrawn => 21
  | .cardFault => 22
  | .host => 23
  | .blocked => 24
  | .restart => 25
  | .tariffUndefined => 26
  | .complete => 27
  | .empty => 28

def hookCode : Option HookLevel → Nat
  | none => 0
  | some .on => 1
  | some .off => 2

def cardCode : Option CardLevel → Nat
  | none => 0
  | some .absent => 1
  | some .present => 2

def lineCode : Option LineCode → Nat
  | none => 0
  | some .idle => 1
  | some .proceed => 2
  | some .answer => 3
  | some .clearback => 4

def LaneState.code : LaneState → Nat
  | .testing => 0
  | .inService => 1
  | .suspect => 2
  | .faulted => 3
  | .disabled => 4

def RecordKind.code : RecordKind → Nat
  | .call => 0
  | .free => 1
  | .recovery => 2

def CallKind.code : CallKind → Nat
  | .call => 0
  | .free => 1

def Resolution.code : Resolution → Nat
  | .noDoubt => 0
  | .taken => 1
  | .notTaken => 2
  | .anomaly => 3

def opCode : Option CardOp → Nat
  | none => 0
  | some .identify => 1
  | some .verify => 2
  | some .burn => 3

def OrderMode.code : OrderMode → Nat
  | .fixed => 0
  | .rotating => 1

def Profile.code : Profile → Nat
  | .card => 0
  | .free => 1
  | .unused => 2

def pendingAllocCode : Option Allocation → Nat
  | none => 0
  | some .home => 1
  | some .relief => 2

def OneShotKind.code : OneShotKind → Nat
  | .stopped => 0
  | .answerWait => 1
  | .tone => 2
  | .clearWait => 3

/-- The refusal codes (R156). -/
def RefusalCode.code : RefusalCode → Nat
  | .unknownRequest => 1
  | .badLength => 2
  | .badValue => 3
  | .badPosition => 4
  | .wrongState => 5
  | .onHook => 6
  | .badClass => 7
  | .tariffUndefined => 8
  | .insufficient => 9
  | .queueFull => 10
  | .noEngine => 11
  | .notOldest => 12
  | .empty => 13
  | .notFound => 14

/-! ### The frame -/

/-- One bit of the check: generator polynomial 1021h (R153). -/
def crcBit (c : Word16) : Word16 := if c.msb then (c <<< 1) ^^^ 0x1021 else c <<< 1

/-- One byte of the check, most significant bit first (R153). -/
def crcByte (c : Word16) (b : Byte) : Word16 := Nat.repeat crcBit 8 (c ^^^ (b ++ (0 : Byte)))

/-- The check over the length, type and body bytes, from FFFFh (R153). -/
def crc16 (bytes : List Byte) : Word16 := bytes.foldl crcByte 0xFFFF

/-- A frame of the station link (R153). -/
def frame (type : Byte) (body : List Byte) : List Byte :=
  let core := byte1 (body.length + 1) ++ type :: body
  Config.syncByte :: core ++ bytes16 (crc16 core)

/-- The type byte of a response (R155): the request type plus 80h, a free value where that does not fit
(notes/assumptions/4.md). -/
def responseType (type : Byte) : Byte := if type.msb then Config.responseTypeAbove type else type + 0x80

/-- The body of a response (R155): the result byte, and the fields of an accepted request. -/
def Reply.body : Reply → List Byte
  | .accepted fields => 0 :: fields
  | .refused code => byte1 code.code

/-- The response frame (R155). -/
def responseFrame (type : Byte) (r : Reply) : List Byte := frame (responseType type) r.body

/-! ### Position summary and POSITION -/

/-- The cause a summary carries (R42): the refusal cause in REFUSED, the end cause in CLEARING, absent otherwise. -/
def Position.causeCode (x : Position) : Nat :=
  match x.state with
  | .refused => (x.refusal.map (·.code)).getD 0
  | .clearing => ((x.call.bind (·.endCause)).map (·.code)).getD 0
  | .vacant | .reading | .recovering | .ready | .routed | .metering | .lastUnit | .freeCall | .blocked => 0

/-- The position summary, 10 bytes (R164). -/
def summaryBytes (p : PosId) (x : Position) : List Byte :=
  byte1 p ++ byte1 x.state.code ++ byte1 x.causeCode ++ byte1 (hookCode x.hook.accepted) ++
  byte1 (cardCode x.card.accepted) ++ byte1 (lineCode x.line.accepted) ++ byte2 x.remaining ++ byte1 x.debt ++
  byte1 (engineOf p x.allocation)

/-- One segment, 4 bytes. -/
def segmentBytes (g : Segment) : List Byte := byte1 g.band ++ [g.edition] ++ byte2 g.units

/-- Four segments, 16 bytes, unused segments zero (R164). -/
def segmentsBytes (gs : List Segment) : List Byte :=
  ((gs.flatMap segmentBytes) ++ List.replicate 16 0).take 16

/-- The call context in a POSITION response, 44 bytes with its presence mark (R164). -/
def callBytes : Option Call → List Byte
  | none => List.replicate 44 0
  | some c =>
    mark1 true ++ byte1 c.kind.code ++ byte1 c.cls ++ bytes32 c.setup ++ mark1 c.answer.isSome ++
    bytes32 (c.answer.getD 0) ++ byte2 ((c.tariff.map (·.period)).getD 0) ++ byte1 ((c.tariff.map (·.step)).getD 0) ++
    mark1 ((c.tariff.map (·.follow)).getD false) ++ mark1 c.bandPending ++ byte1 c.segments.length ++
    mark1 c.merged ++ segmentsBytes c.segments ++ byte2 c.charged ++ byte2 c.units.burned ++
    byte2 c.units.writtenOff ++ byte1 c.units.owedOut ++ byte1 c.units.doubtOut ++ mark1 c.units.anomaly

/-- The recovery field in a POSITION response, 14 bytes with its presence mark (R164). -/
def recoveryBytes : Option Recovery → List Byte
  | none => List.replicate 14 0
  | some r =>
    mark1 true ++ byte1 r.owedIn ++ byte1 r.resolution.code ++ bytes32 r.start ++ byte2 r.units.burned ++
    byte2 r.units.writtenOff ++ byte1 r.units.owedOut ++ byte1 r.units.doubtOut ++ mark1 r.units.anomaly

/-- The fields of an accepted POSITION (R43, R164). -/
def positionFields (p : PosId) (x : Position) : List Byte :=
  summaryBytes p x ++ byte1 x.profile.code ++ mark1 x.blockPending ++
  mark1 x.identity.isSome ++ bytes16 ((x.key.map (·.series)).getD 0) ++ bytes32 ((x.key.map (·.serial)).getD 0) ++
  byte2 ((x.identity.map (·.face)).getD 0) ++
  mark1 x.faulty ++ mark1 x.doubt.isSome ++ byte2 (x.doubt.getD 0) ++ byte1 x.retry ++ byte1 (opCode x.pendingOp) ++
  byte1 (opCode (x.inFlight.map (·.op))) ++ byte1 ((x.inFlight.map fun f => f.engine.val).getD 0) ++
  mark1 ((x.inFlight.map (·.discard)).getD false) ++
  mark1 x.relieved ++ byte1 (pendingAllocCode x.pendingAlloc) ++ mark1 x.reservation ++ mark1 x.cardLost ++
  callBytes x.call ++ recoveryBytes x.recovery ++
  byte2 x.unitTimer.count ++ mark1 x.unitTimer.running ++ byte1 x.oneShot.kind.code ++ byte2 x.oneShot.count ++
  mark1 x.freezeMark ++ mark1 (x.profile = .unused) ++ mark1 x.lineEnable ++ mark1 x.forcedClear ++ mark1 x.tone

/-! ### Other responses -/

/-- An engine in the STATUS response, 9 bytes (R158, R164): the test time left is reported 0 outside TESTING, and the
auto-relief mark of ER off. -/
def engineBytes (s : State) (e : EngineId) : List Byte :=
  let g := s.eng e
  byte1 g.lane.code ++ mark1 g.disablePending ++ byte1 (if g.lane = .testing then g.testTimeLeft else 0) ++
  byte1 g.mode.code ++ byte1 g.grantLength ++ mark1 (e != reliefEngine && g.autoRelief) ++ byte1 g.pointer ++
  byte1 g.burst ++ byte1 (s.candidates e).length

/-- The last eviction in the STATUS response. -/
def evictionBytes : Option Eviction → List Byte
  | none => List.replicate 13 0
  | some v => mark1 true ++ bytes16 v.key.series ++ bytes32 v.key.serial ++ byte1 v.owed ++ byte1 v.inDoubt ++
      bytes32 v.stamp

/-- The settings in SET code order, then the link rate code (R161, R164). -/
def settingsBytes (s : State) : List Byte :=
  byte1 s.settings.urgency ++ byte2 s.settings.answerWait ++ byte1 s.settings.clearWait ++ byte1 s.depths.hook ++
  byte1 s.depths.card ++ byte1 s.depths.line ++ byte2 s.acct.interval ++ byte1 s.link.attnMask.toNat ++
  byte1 s.link.rate

/-- The fields of an accepted STATUS (R158, R164). -/
def statusFields (s : State) : List Byte :=
  bytes16 s.alertSet ++ allEngines.flatMap (engineBytes s) ++ byte1 s.queue.records.length ++ byte1 s.reservations ++
  byte1 s.waitSet.length ++ byte1 s.tear.entries.length ++ evictionBytes s.tear.lastEviction ++ [s.tariff.edition] ++
  byte1 s.tariff.band ++ bytes32 s.link.stamp ++ byte1 s.changeSet.length ++ settingsBytes s

/-- A tariff entry with the edition and band (R51, R164). -/
def tariffFields (t : TariffEntry) (edition : Byte) (band : Fin 4) : List Byte :=
  mark1 t.defined ++ bytes16 t.period ++ byte1 t.step ++ byte1 t.initial ++ mark1 t.follow ++ [edition] ++ byte1 band

/-- The record, 54 bytes (R164). -/
def recordBytes (r : CallRecord) : List Byte :=
  bytes16 r.sequence ++ byte1 r.kind.code ++ byte1 r.position ++
  byte1 ((if r.card.isSome then 1 else 0) + (if r.cls.isSome then 2 else 0) + (if r.answer.isSome then 4 else 0)) ++
  bytes16 ((r.card.map (·.series)).getD 0) ++ bytes32 ((r.card.map (·.serial)).getD 0) ++
  byte1 ((r.cls.map (·.val)).getD 0) ++
  bytes32 r.setup ++ bytes32 (r.answer.getD 0) ++ bytes32 r.duration ++
  byte1 r.segments.length ++ mark1 r.merged ++ segmentsBytes r.segments ++
  byte2 r.charged ++ byte2 r.units.burned ++ byte1 r.units.owedOut ++ byte1 r.units.doubtOut ++
  byte2 r.units.writtenOff ++
  byte1 (r.owedIn.getD 0) ++ byte1 ((r.resolution.map (·.code)).getD 0) ++ mark1 r.units.anomaly ++
  byte1 r.endCause.code

/-- The tear entry, 17 bytes (R164). -/
def tearEntryBytes (t : TearEntry) : List Byte :=
  bytes16 t.key.series ++ bytes32 t.key.serial ++ byte2 t.face ++ byte1 t.owed ++ mark1 t.inDoubt.isSome ++
  byte2 (t.inDoubt.getD 0) ++ byte1 t.origin ++ bytes32 t.stamp

/-- The live totals in the order of R145. -/
def totalsBytes (t : Totals) : List Byte :=
  bytes32 t.charged ++ bytes32 t.burned ++ bytes32 t.writtenOff ++ bytes32 t.answered ++ bytes32 t.freeCalls ++
  bytes32 t.recordsWritten

/-- The snapshot set as COUNTERS returns it (R150, R164): 125 bytes, zeros where it is absent. -/
def snapshotBytes : Option SnapshotSet → List Byte
  | none => List.replicate 125 0
  | some n => mark1 true ++ bytes32 n.stamp ++ n.counts.flatMap fun c => byte2 c.count ++ mark1 c.overflow

/-- The fields of an accepted COUNTERS (R150, R164). -/
def countersFields (a : Accounting) : List Byte := totalsBytes a.totals ++ snapshotBytes a.snapshot

/-- The fields of an accepted CHANGES (R157, R164): members left, count, summaries. -/
def changesFields (left : Nat) (summaries : List (List Byte)) : List Byte :=
  byte1 left ++ byte1 summaries.length ++ summaries.flatten

end Sys2Proof.Machine
end

