-- ==== Sys2Proof/Machine/Link.lean ====
section
/-!
DEFINITION. The station link: the receiver and its discards (R153, R154), answering (R155), and the requests the link
controller owns: STATUS, SET, CLOCK, CLEAR ALERTS and LINK RATE.

A request command stands for the owner's event of a good frame. Where the frame came byte by byte, its request was
handed on and is taken now; where no answer is pending, the command is the whole frame, received, handed on and taken;
otherwise the frame completes while an answer is pending and is discarded as overrun (notes/assumptions/1.md).
-/

namespace Sys2Proof.Machine

/-! ### Discards -/

/-- A frame is discarded (R154): LINK_ERROR stands, the discard is counted, the receiver is HUNTING. -/
def State.discardFrame (s : State) : State :=
  (s.modGlobal fun g => { g with discarded := saturate g.discarded 1 }).modLink
    fun l => { l with receiver := .hunting, linkError := true }

/-- FRAME_DISCARD (R154): every reason has the one effect (notes/assumptions/2.md). -/
def execFrameDiscard (_why : DiscardReason) (s : State) : Result := .next s.discardFrame

/-- FRAME_GAP_TIMEOUT (R154). -/
def execFrameGapTimeout (s : State) : Result := .next s.discardFrame

/-! ### Answering -/

/-- The answer to a request is composed and in transmission (R155). -/
def State.answered (s : State) (c : Instr) (r : Reply) : State :=
  s.modLink fun l =>
    { l with handed := none, answerPending := true, response := some (responseFrame (requestType c) r) }

/-- The owner takes the request as one event and the response is composed (R155). -/
def State.respond (s : State) (c : Instr) (owner : State → State × Reply) : State :=
  (owner s).1.answered c (owner s).2

/-- A request command: taken by its owner, or discarded as overrun while the answer to another request is pending
(R154, R155). -/
def State.request (s : State) (c : Instr) (owner : State → State × Reply) : State :=
  if s.link.answerPending && s.link.handed != some c then s.discardFrame else s.respond c owner

/-- RESPONSE_SENT (R155, R152): the answer is no longer pending; an accepted rate takes effect, and a frame whose
reception is in progress is then discarded. -/
def State.responseLeaves (s : State) : State :=
  let s1 := s.modLink fun l => { l with answerPending := false, response := none }
  match s.link.newRate with
  | none => s1
  | some r =>
    let s2 := s1.modLink fun l => { l with rate := r, newRate := none }
    match s.link.receiver with
    | .hunting => s2
    | .inFrame _ => s2.discardFrame

/-- RESPONSE_SENT: nothing leaves where no response is in transmission. -/
def execResponseSent (s : State) : Result := .next (if s.link.response.isSome then s.responseLeaves else s)

/-- The link controller's own tests of a frame (R155): test 1, then test 2. The second is told here because the table
has no row of its own for it (notes/assumptions/3.md). -/
def unknownRequestRule (type : Byte) (s : State) : State × Reply :=
  match requestLength type with
  | none => refuse s .unknownRequest
  | some _ => refuse s .badLength

/-- UNKNOWN_REQUEST (R155). A frame that passes both tests is no such frame. -/
def execUnknownRequest (type : Byte) (body : List Byte) (s : State) : Result :=
  .next
    (if refusedByLink type body then s.request (.unknownRequest type body) (unknownRequestRule type) else s)

/-! ### Reception, byte by byte -/

/-- The check of a whole frame, given its bytes after the sync byte (R153). -/
def frameCheckPasses (bytes : List Byte) : Bool :=
  let n := bytes.length - 2
  bytes16 (crc16 (bytes.take n)) = bytes.drop n

/-- The last check byte has been received (R154): overrun, a failing check, or a good request handed on (R155). -/
def State.frameEnds (s : State) (bytes : List Byte) : State :=
  if s.link.answerPending || !frameCheckPasses bytes then s.discardFrame
  else
    let core := (bytes.take (bytes.length - 2)).tail
    s.modLink fun l =>
      { l with
        receiver := .hunting
        answerPending := true
        handed := some (decodeRequest (core.headD 0) core.tail) }

/-- A byte inside a frame (R154): the length byte is tested at once; the frame ends with its last check byte. -/
def State.frameByte (s : State) (bytes : List Byte) (b : Byte) : State :=
  match bytes with
  | [] =>
    if b.toNat = 0 || Config.frameLengthMax < b.toNat then s.discardFrame
    else s.modLink fun l => { l with receiver := .inFrame [b] }
  | len :: _ =>
    let got := bytes ++ [b]
    if got.length < len.toNat + 3 then s.modLink fun l => { l with receiver := .inFrame got }
    else s.frameEnds got

/-- LINK_BYTE_RECEIVED (R154). -/
def execLinkByteReceived (b : Byte) (s : State) : Result :=
  .next
    (match s.link.receiver with
    | .hunting => if b = Config.syncByte then s.modLink fun l => { l with receiver := .inFrame [] } else s
    | .inFrame bytes => s.frameByte bytes b)

/-! ### The link controller's own requests -/

/-- STATUS (R158). -/
def statusRule (s : State) : State × Reply := (s, .accepted (statusFields s))

def execStatus (s : State) : Result := .next (s.request .status statusRule)

/-- A setting within its range is accepted; a value outside it is refused BAD_VALUE (R161). -/
def inRange (lo hi v : Nat) (s : State) (set : State) : State × Reply :=
  if lo ≤ v ∧ v ≤ hi then accept set else refuse s .badValue

/-- The snapshot interval timer set to an interval, 0 for off: it replaces the count held, and no expiry of the old
count follows (R149, notes/assumptions/8.md). -/
def Accounting.setInterval (v : Nat) (a : Accounting) : Accounting :=
  { a with interval := v, intervalLeft := v, intervalDue := false }

/-- The snapshot interval (R149): 0 stops its timer, 10 to 3600 start it. -/
def setInterval (v : Nat) (s : State) : State × Reply :=
  if v = 0 then accept (s.modAcct (·.setInterval 0)) else inRange 10 3600 v s (s.modAcct (·.setInterval v))

/-- SET (R161). -/
def setRule (code : Byte) (value : Word16) (s : State) : State × Reply :=
  let v := value.toNat
  match code.toNat with
  | 1 => inRange 1 7 v s (s.modSettings fun t => { t with urgency := v })
  | 2 => inRange 10 300 v s (s.modSettings fun t => { t with answerWait := v })
  | 3 => inRange 5 50 v s (s.modSettings fun t => { t with clearWait := v })
  | 4 => inRange 2 8 v s (s.modDepths fun d => { d with hook := v })
  | 5 => inRange 2 8 v s (s.modDepths fun d => { d with card := v })
  | 6 => inRange 2 8 v s (s.modDepths fun d => { d with line := v })
  | 7 => setInterval v s
  | 8 => inRange 0 7 v s (s.modLink fun l => { l with attnMask := BitVec.ofNat 3 v })
  | _ => refuse s .badValue

def execSet (code : Byte) (value : Word16) (s : State) : Result :=
  .next (s.request (.set code value) (setRule code value))

/-- CLOCK (R162). -/
def clockRule (stamp : Word32) (s : State) : State × Reply := accept (s.modLink fun l => { l with stamp := stamp })

def execClock (stamp : Word32) (s : State) : Result := .next (s.request (.clock stamp) (clockRule stamp))

/-- CLEAR ALERTS (R159): the named latched alerts are cleared; every other value is ignored. -/
def clearAlertsRule (alerts : Word16) (s : State) : State × Reply :=
  accept (s.modLink fun l =>
    { l with
      tearEvicted := l.tearEvicted && !alerts.getLsbD 8
      snapshotReady := l.snapshotReady && !alerts.getLsbD 9
      linkError := l.linkError && !alerts.getLsbD 10 })

def execClearAlerts (alerts : Word16) (s : State) : Result :=
  .next (s.request (.clearAlerts alerts) (clearAlertsRule alerts))

/-- LINK RATE (R152): an accepted rate other than the one in force waits for its response to be sent. -/
def linkRateRule (code : Byte) (s : State) : State × Reply :=
  match rateOf code with
  | none => refuse s .badValue
  | some r =>
    if r = s.link.rate then accept s else accept (s.modLink fun l => { l with newRate := some r })

def execLinkRate (code : Byte) (s : State) : Result := .next (s.request (.linkRate code) (linkRateRule code))

end Sys2Proof.Machine
end

