-- ==== Sys2Proof/Machine/Tariffs.lean ====
section
/-!
DEFINITION. The tariff store: look-ups, the staged table, commits and bands (03), and what a call takes from the store
at answer and at a recopy.
-/

namespace Sys2Proof.Machine

/-- An entry of a table. -/
def TariffTable.entry (t : TariffTable) (cls : Fin 16) (band : Fin 4) : TariffEntry := (t[cls.val])[band.val]

/-- A look-up: the active entry of a class for the current band (R50). -/
def TariffStore.lookup (t : TariffStore) (cls : Fin 16) : TariffEntry := t.active.entry cls t.band

/-- A free entry (R46). -/
def TariffEntry.isFree (e : TariffEntry) : Bool := e.defined && e.period = 0

/-- An entry usable at answer and at a recopy (R46). -/
def TariffEntry.usable (e : TariffEntry) : Bool := e.defined && e.period != 0

/-- What a call copies of an entry (R54). -/
def TariffEntry.inUse (e : TariffEntry) : InUseTariff :=
  { period := e.period.toNat, step := e.step, follow := e.follow }

/-- The tariff is copied and the first segment opened at answer (R54, R56). -/
def Call.openTariff (e : TariffEntry) (band : Fin 4) (edition : Byte) (c : Call) : Call :=
  { c with tariff := some e.inUse, segments := [{ band := band, edition := edition, units := 0 }] }

/-- Whether a pair of band and edition is that of the last segment (R55). -/
def Call.onSegment (c : Call) (band : Fin 4) (edition : Byte) : Bool :=
  match c.segments.getLast? with
  | none => false
  | some g => g.band = band && g.edition = edition

/-- A segment is opened, or absorbed into the fourth (R56, R57). -/
def Call.openSegment (c : Call) (band : Fin 4) (edition : Byte) : Call :=
  if c.segments.length < Config.segmentPlaces then
    { c with segments := c.segments ++ [{ band := band, edition := edition, units := 0 }] }
  else { c with merged := true }

/-- A recopy (R55). -/
def Call.recopy (e : TariffEntry) (band : Fin 4) (edition : Byte) (c : Call) : Call :=
  let c1 := { c with bandPending := false }
  if e.usable then
    let c2 := { c1 with tariff := some e.inUse }
    if c2.onSegment band edition then c2 else c2.openSegment band edition
  else c1

/-! ### Requests -/

/-- The entry a TARIFF STAGE carries, where its values lie in their ranges (R47). -/
def stagedEntry (defined : Byte) (period : Word16) (step initial follow : Byte) : Option TariffEntry :=
  match markOf defined with
  | none => none
  | some false => some .undefined
  | some true =>
    match markOf follow with
    | none => none
    | some f =>
      if 1 ≤ step.toNat ∧ step.toNat ≤ 4 ∧ initial.toNat ≤ 7 then
        some { defined := true, period := period, step := step.toNat, initial := initial.toNat, follow := f }
      else none

/-- One entry of a table is replaced. -/
def TariffTable.put (t : TariffTable) (cls : Fin 16) (band : Fin 4) (e : TariffEntry) : TariffTable :=
  t.set cls.val ((t[cls.val]).set band.val e)

/-- TARIFF STAGE (R47). -/
def tariffStageRule (cls band defined : Byte) (period : Word16) (step initial follow : Byte) (s : State) :
    State × Reply :=
  match classOf cls, bandOf band, stagedEntry defined period step initial follow with
  | some c, some b, some e => accept (s.modTariff fun t => { t with staged := t.staged.put c b e })
  | _, _, _ => refuse s .badValue

def execTariffStage (cls band defined : Byte) (period : Word16) (step initial follow : Byte) (s : State) : Result :=
  .next (s.request (.tariffStage cls band defined period step initial follow)
    (tariffStageRule cls band defined period step initial follow))

/-- TARIFF COPY (R48). -/
def tariffCopyRule (s : State) : State × Reply := accept (s.modTariff fun t => { t with staged := t.active })

def execTariffCopy (s : State) : Result := .next (s.request .tariffCopy tariffCopyRule)

/-- TARIFF COMMIT (R49). -/
def tariffCommitRule (edition : Byte) (s : State) : State × Reply :=
  if edition = s.tariff.edition then refuse s .badValue
  else accept (s.modTariff fun t => { t with active := t.staged, edition := edition })

def execTariffCommit (edition : Byte) (s : State) : Result :=
  .next (s.request (.tariffCommit edition) (tariffCommitRule edition))

/-- A table selector: 0 ACTIVE, 1 STAGED (R165). -/
def tableOf (t : TariffStore) (selector : Byte) : Option TariffTable :=
  if selector = 0 then some t.active else if selector = 1 then some t.staged else none

/-- TARIFF READ (R51). -/
def tariffReadRule (selector cls band : Byte) (s : State) : State × Reply :=
  match tableOf s.tariff selector, classOf cls, bandOf band with
  | some t, some c, some b => (s, .accepted (tariffFields (t.entry c b) s.tariff.edition s.tariff.band))
  | _, _, _ => refuse s .badValue

def execTariffRead (selector cls band : Byte) (s : State) : Result :=
  .next (s.request (.tariffRead selector cls band) (tariffReadRule selector cls band))

/-- A running band-follow call is marked band-change pending (R52). -/
def Call.markBand (c : Call) : Call :=
  match c.tariff with
  | none => c
  | some t => if t.follow then { c with bandPending := true } else c

/-- BAND (R52). -/
def bandRule (b : Byte) (s : State) : State × Reply :=
  match bandOf b with
  | none => refuse s .badValue
  | some n =>
    if n = s.tariff.band then accept s
    else
      accept ((s.modTariff fun t => { t with band := n }).mapPos fun _ x =>
        if x.state.metered then x.mapCall (·.markBand) else x)

def execBand (b : Byte) (s : State) : Result := .next (s.request (.band b) (bandRule b))

end Sys2Proof.Machine
end

