-- ==== Sys2Proof/Machine/Metering.lean ====
section
/-!
DEFINITION. The metering unit and the charging of calls (04): the tick, the expiries, the answer procedure, the recopy
and the entry into LAST_UNIT; and the whole seconds of the timebase (R162).
-/

namespace Sys2Proof.Machine

/-! ### Charging -/

/-- Units are added to the last segment (R56). -/
def addToLast (n : Nat) : List Segment → List Segment
  | [] => []
  | [g] => [{ g with units := g.units + n }]
  | g :: h :: rest => g :: addToLast n (h :: rest)

/-- Units are charged into a call (R66). -/
def Call.charge (n : Nat) (c : Call) : Call :=
  { c with charged := c.charged + n, segments := addToLast n c.segments }

/-- A charge of n units (R66). -/
def State.charge (s : State) (p : PosId) (n : Nat) : State :=
  (s.modPos p fun x => { (x.mapCall (·.charge n)) with debt := x.debt + n }).reportCharged n

/-- The step of the in-use tariff. -/
def Position.step (x : Position) : Option Nat := (x.call.bind (·.tariff)).map (·.step)

/-- A position in METERING whose remaining less debt is below the in-use step goes to LAST_UNIT (R70). -/
def Position.lastUnitTest (x : Position) : Position :=
  match x.step with
  | none => x
  | some n => if x.state = .metering ∧ x.remaining < x.debt + n then x.enterLastUnit else x

/-- The answer procedure charges the smallest of the initial, remaining less debt, and 7 less debt (R67). -/
def answerCharge (e : TariffEntry) (x : Position) : Nat :=
  min e.initial (min (x.remaining - x.debt) (Config.debtCeiling - x.debt))

/-- The unit timer is preset to a period and the position enters METERING (R62, R67). -/
def Position.startMetering (period : Nat) (x : Position) : Position :=
  { (x.enter .metering) with unitTimer := { count := period, running := true } }

/-- ANSWER in ROUTED: the answer stamp and the answer procedure (R29, R54, R67). -/
def State.answerCall (s : State) (p : PosId) : State :=
  let s1 := s.modPos p (·.mapCall fun c => { c with answer := some s.link.stamp })
  match (s1.pos p).call with
  | none => s
  | some c =>
    let e := s.tariff.lookup c.cls
    if e.usable then
      let s2 := s1.modPos p (·.mapCall (·.openTariff e s.tariff.band s.tariff.edition))
      let s3 := s2.charge p (answerCharge e (s2.pos p))
      let s4 := s3.modPos p fun x => (x.startMetering e.period.toNat).lastUnitTest
      s4.modTotals fun t => { t with answered := advance t.answered 1 }
    else s1.endCall p .tariffUndefined

/-! ### The tick and the expiries -/

/-- Every running timer of a position is lowered by 1 (R61); one that stands at 0 has its expiry still to be taken
(notes/assumptions/7.md). -/
def Position.tick (x : Position) : Position :=
  { x with
    unitTimer := if x.unitTimer.running then { x.unitTimer with count := x.unitTimer.count - 1 } else x.unitTimer
    oneShot := if x.oneShot.kind = .stopped then x.oneShot else { x.oneShot with count := x.oneShot.count - 1 } }

/-- METERING_TICK (R61). -/
def execMeteringTick (s : State) : Result := .next (s.mapPos fun _ x => x.tick)

/-- The recopy of a call whose band-change pending mark is set (R55, R68). -/
def State.recopy (s : State) (p : PosId) : State :=
  s.modPos p (·.mapCall fun c => c.recopy (s.tariff.lookup c.cls) s.tariff.band s.tariff.edition)

/-- The unit timer is reloaded with the in-use period (R62, R68). -/
def Position.reload (x : Position) : Position :=
  match x.call.bind (·.tariff) with
  | none => x
  | some t => { x with unitTimer := { x.unitTimer with count := t.period } }

/-- The debt ceiling cuts the charge of an expiry in METERING (R69). -/
def State.debtLimitCut (s : State) (p : PosId) (step n : Nat) : State :=
  ((s.charge p n).modGlobal fun g =>
    { g with debtLimits := saturate g.debtLimits 1, forgone := saturate g.forgone (step - n) }).endCall p .debtLimit

/-- A unit expiry taken in METERING (R68, R69). -/
def State.meteringExpiry (s : State) (p : PosId) : State :=
  match (s.pos p).call with
  | none => s
  | some c =>
    match c.tariff with
    | none => s
    | some t =>
      let n := min t.step (Config.debtCeiling - (s.pos p).debt)
      if n < t.step then s.debtLimitCut p t.step n
      else
        let s1 := s.charge p n
        let s2 := if c.bandPending then s1.recopy p else s1
        s2.modPos p fun x => x.reload.lastUnitTest

/-- The charge of the one unit expiry in LAST_UNIT (R71). -/
def lastCharge (step : Nat) (x : Position) : Nat :=
  min step (min (x.remaining - x.debt) (Config.debtCeiling - x.debt))

/-- A unit expiry taken in LAST_UNIT (R71). -/
def State.lastUnitExpiry (s : State) (p : PosId) : State :=
  match (s.pos p).step with
  | none => s
  | some n => (s.charge p (lastCharge n (s.pos p))).endCall p .exhausted

/-- A unit timer that runs and has come to 0 has an expiry to be taken (R62). -/
def Position.unitExpiryDue (x : Position) : Bool := x.unitTimer.running && x.unitTimer.count = 0

/-- A one-shot timer of a kind that has come to 0 has an expiry to be taken (R63). -/
def Position.oneShotDue (kind : OneShotKind) (x : Position) : Bool := x.oneShot.kind = kind && x.oneShot.count = 0

/-- UNIT_EXPIRY (R68, R71). -/
def execUnitExpiry (p : PosId) (s : State) : Result :=
  .next
    (if (s.pos p).unitExpiryDue then
      match (s.pos p).state with
      | .metering => (s.meteringExpiry p).conclude p
      | .lastUnit => (s.lastUnitExpiry p).conclude p
      | .vacant | .reading | .refused | .recovering | .ready | .routed | .freeCall | .clearing | .blocked => s
    else s)

/-- ANSWER_WAIT_EXPIRY (R29): the ender NO_ANSWER. -/
def execAnswerWaitExpiry (p : PosId) (s : State) : Result :=
  .next
    (if (s.pos p).oneShotDue .answerWait && (s.pos p).state = .routed then (s.endCall p .noAnswer).conclude p else s)

/-- TONE_EXPIRY (R12): tone off. -/
def execToneExpiry (p : PosId) (s : State) : Result :=
  .next
    (if (s.pos p).oneShotDue .tone then
      s.modPos p fun x => { x with tone := false, oneShot := x.oneShot.stop }
    else s)

/-- CLEAR_WAIT_EXPIRY (R11): forced clear off, the line part of clearing done. -/
def execClearWaitExpiry (p : PosId) (s : State) : Result :=
  .next
    (if (s.pos p).oneShotDue .clearWait then
      (s.modPos p fun x => { x with forcedClear := false, oneShot := x.oneShot.stop }).conclude p
    else s)

/-- One second of the snapshot interval timer (R149): the second that brings it to 0 is an expiry, still to be
taken. -/
def Accounting.intervalSecond (a : Accounting) : Accounting :=
  { a with intervalLeft := a.intervalLeft - 1, intervalDue := a.intervalDue || a.intervalLeft = 1 }

/-- STAMP_ADVANCE (R162). A whole second of the timebase is also taken from the snapshot interval timer (R149,
notes/assumptions/8.md). -/
def execStampAdvance (s : State) : Result :=
  .next ((s.modLink fun l => { l with stamp := l.stamp + 1 }).modAcct (·.intervalSecond))

end Sys2Proof.Machine
end

