-- ==== Sys2Proof/Machine/Supervision.lean ====
section
/-!
DEFINITION. The supervision scanner and what a position makes of an accepted change: de-bounce (R3), insertions (R20),
withdrawals (R23, R31, R33, R118, R120, R125, R130), hook changes (R31) and line codes (R29, R30).
-/

namespace Sys2Proof.Machine

/-- The de-bounce step (R3): the input after the sample, and whether the sample is accepted. -/
def Input.sample {α : Type} [DecidableEq α] (depth : Nat) (v : α) (i : Input α) : Input α × Bool :=
  if i.accepted = some v then ({ i with last := some v, run := 0 }, false)
  else
    let run := if i.last = some v then i.run + 1 else 1
    if depth ≤ run then ({ accepted := some v, last := some v, run := 0 }, true)
    else ({ i with last := some v, run := run }, false)

/-! ### The card contact -/

/-- An insertion (R20): a VACANT position with profile CARD starts reading; elsewhere the contact alone changes. -/
def State.insertion (s : State) (p : PosId) : State :=
  if (s.pos p).state = .vacant && (s.pos p).profile = .card then s.modPos p (·.startReading) else s

/-- The held card has left: the debt is passed at once with nothing in flight, and at the completion otherwise (R118,
R120). -/
def State.passOrLose (s : State) (p : PosId) : State :=
  if (s.pos p).inFlight.isSome then s.modPos p fun x => { x with cardLost := true } else s.passDebt p

/-- The IDENTIFY in flight, if any, carries the discard mark (R23). -/
def Position.discardIdentify (x : Position) : Position :=
  { x with inFlight := x.inFlight.map fun f => { f with discard := true } }

/-- The held card leaves a position (07, table of section 7.2), by an accepted withdrawal or by a VERIFY that finds
another card (R77). -/
def State.cardLeaves (s : State) (p : PosId) : State :=
  match (s.pos p).state with
  | .vacant | .blocked => s
  | .reading => s.modPos p fun x => x.discardIdentify.arriveVacant
  | .refused | .ready => s.modPos p (·.arriveVacant)
  | .routed | .metering | .lastUnit =>
    let s1 := s.modGlobal fun g => { g with withdrawals := saturate g.withdrawals 1 }
    ((s1.modPos p fun x => { x with cardLeft := true }).endCall p .cardWithdrawn).passOrLose p
  | .freeCall => s.modPos p fun x => { x.forgetCard with cardLeft := true }
  | .clearing => (s.modPos p fun x => { x with cardLeft := true }).passOrLose p
  | .recovering =>
    let s1 := s.modPos p fun x => { x with cardLeft := true }
    if (s.pos p).waiting then s1.modPos p (·.arriveVacant)
    else if (s.pos p).inFlight.isSome then s1.modPos p fun x => { x with cardLost := true }
    else s1.loseRecovery p

/-- The card contact is accepted at a new value (R4): insertion, withdrawal, or card acquired absent. -/
def State.cardAccepted (s : State) (p : PosId) (previous : Option CardLevel) (v : CardLevel) : State :=
  match v with
  | .present => s.insertion p
  | .absent => if previous = some .present then s.cardLeaves p else s

/-! ### The hook and the line -/

/-- The hook is accepted at a new value (R13, R31): the changed mark, and the ender HUNG_UP for hook ON in a call. -/
def State.hookAccepted (s : State) (p : PosId) (v : HookLevel) : State :=
  let s1 := s.modPos p fun x => { x with changed := true }
  if v = .on && (s.pos p).state.inCall then s1.endCall p .hungUp else s1

/-- The answer stamp of a free call (R30). -/
def Call.answerFree (now : Word32) (c : Call) : Call :=
  { c with answer := match c.answer with
      | some a => some a
      | none => some now }

/-- A line code is accepted (R29, R30, R31, R11). -/
def State.lineAccepted (s : State) (p : PosId) (v : LineCode) : State :=
  match v with
  | .proceed => s
  | .idle =>
    if (s.pos p).state = .clearing then
      s.modPos p fun x => { x with forcedClear := false, oneShot := x.oneShot.stop }
    else s
  | .answer =>
    if (s.pos p).state = .routed then s.answerCall p
    else if (s.pos p).state = .freeCall then s.modPos p (·.mapCall (·.answerFree s.link.stamp))
    else s
  | .clearback => if (s.pos p).state.inCall then s.endCall p .farEnd else s

/-! ### The sample -/

/-- A sample of one input of an unfrozen position (R1, R3, R4). -/
def State.sample (s : State) (p : PosId) : Sample → State
  | .hook v =>
    let r := (s.pos p).hook.sample s.depths.hook v
    let s1 := s.modPos p fun x => { x with hook := r.1 }
    if r.2 then (s1.hookAccepted p v).conclude p else s1
  | .card v =>
    let r := (s.pos p).card.sample s.depths.card v
    let s1 := s.modPos p fun x => { x with card := r.1 }
    if r.2 then (s1.cardAccepted p (s.pos p).card.accepted v).conclude p else s1
  | .line v =>
    let r := (s.pos p).line.sample s.depths.line v
    let s1 := s.modPos p fun x => { x with line := r.1 }
    if r.2 then (s1.lineAccepted p v).conclude p else s1

/-- INPUT_SAMPLE (R1, R3): a frozen position is not sampled. -/
def execInputSample (p : PosId) (v : Sample) (s : State) : Result :=
  .next (if (s.pos p).frozen then s else s.sample p v)

/-! ### Freezing -/

/-- An input at a thaw (R8). -/
def Input.thaw {α : Type} (i : Input α) : Input α := { i with last := none, run := 0 }

/-- A thaw (R8): last samples absent, run counts 0, accepted values kept. -/
def Position.thaw (x : Position) : Position :=
  { x with hook := x.hook.thaw, card := x.card.thaw, line := x.line.thaw }

/-- A position after a change of mark or profile: thawed where it stops being frozen (R8). -/
def Position.refrozen (before after : Position) : Position :=
  if before.frozen && !after.frozen then after.thaw else after

/-- FREEZE (R7). -/
def freezeRule (mark : Byte) (p : PosId) (s : State) : State × Reply :=
  match markOf mark with
  | none => refuse s .badValue
  | some m => accept (s.modPos p fun x => x.refrozen { x with freezeMark := m })

def execFreeze (p mark : Byte) (s : State) : Result :=
  .next (s.request (.freeze p mark) (onPosition p (freezeRule mark)))

/-- PROFILE (R41): in BLOCKED only. -/
def profileRule (prof : Byte) (p : PosId) (s : State) : State × Reply :=
  match profileOf prof with
  | none => refuse s .badValue
  | some v =>
    if (s.pos p).state = .blocked then accept (s.modPos p fun x => x.refrozen { x with profile := v })
    else refuse s .wrongState

def execProfile (p prof : Byte) (s : State) : Result :=
  .next (s.request (.profile p prof) (onPosition p (profileRule prof)))

end Sys2Proof.Machine
end

