-- ==== Sys2Proof/Machine/Lanes.lean ====
section
/-!
DEFINITION. The card buses and the lanes: the steps of an operation on the bus (R83 to R88), its completion at the
engine (R89, R92, R105) and at the position (R21, R22, R73 to R78, R119, R130), the bus test (R93), and the requests on
engines (R94 to R96, R106).
-/

namespace Sys2Proof.Machine

/-! ### Steps on the bus -/

/-- The check of a header read (R80): the twelve bytes add up to 255 modulo 256. -/
def headerCheckPasses (b : Vector Byte 12) : Bool := (b.toList.map BitVec.toNat).sum % 256 = 255

/-- The header fields of the twelve bytes (R80). -/
def headerOf (b : Vector Byte 12) : Header :=
  { kind := b[0]
    key := { series := word16 b[1] b[2], serial := word32 b[3] b[4] b[5] b[6] }
    face := (word16 b[7] b[8]).toNat
    counter := (word16 b[9] b[10]).toNat }

/-- The step a select answer brings (R83, R85 to R88); none where no select is under way. -/
def EngineOp.afterSelect (o : EngineOp) (a : SelectReply) : Option BusStep :=
  match o.step, a with
  | .select, .noAnswer => some (.ended .busFault)
  | .select, .absent => some (.ended (if o.op = .burn then .cardGone else .noCard))
  | .select, .present => some .read
  | .timeoutSelect, .noAnswer => some (.ended .busFault)
  | .timeoutSelect, .absent => some (.ended .cardGone)
  | .timeoutSelect, .present => some (.ended .timeout)
  | .backSelect, .noAnswer => some (.ended .busFault)
  | .backSelect, .absent => some (.ended .cardGone)
  | .backSelect, .present => some .backRead
  | .read, _ | .reread _, _ | .ready, _ | .backRead, _ | .backReread, _ | .ended _, _ => none

/-- Steps 6 and 7 of a BURN: the read-back against what was taken at the grant (R88). -/
def EngineOp.readBack (o : EngineOp) (h : Header) : OpOutcome :=
  if o.key ≠ some h.key then .cardGone
  else if h.counter + 1 = o.before then .done h.counter
  else if h.counter = o.before then .notTaken h.counter
  else .anomaly h.counter

/-- The step a header read brings (R84, R86 to R88); none where no header read is under way. -/
def EngineOp.afterHeader (o : EngineOp) (b : Vector Byte 12) : Option BusStep :=
  let ok := headerCheckPasses b
  let h := headerOf b
  match o.step with
  | .read =>
    match o.op with
    | .identify => some (if ok then .reread b else .ended .checkFail)
    | .verify => some (.ended (if ok then .read h else .checkFail))
    | .burn =>
      some (if !ok then .ended .timeout else if o.key = some h.key then .ready else .ended .cardGone)
  | .reread first => some (.ended (if ok && b = first then .read h else .checkFail))
  | .backRead => some (if ok then .ended (o.readBack h) else .backReread)
  | .backReread => some (.ended (if ok then o.readBack h else .timeout))
  | .select | .ready | .timeoutSelect | .backSelect | .ended _ => none

/-- Whether a header read is under way, which a stalled byte may stop (R84). -/
def BusStep.reading : BusStep → Bool
  | .read | .reread _ | .backRead | .backReread => true
  | .select | .ready | .timeoutSelect | .backSelect | .ended _ => false

/-- The operation in flight at an engine goes to the step a bus event brings; nothing where no event of that kind can
come (no operation, a lane reset running, or another step; notes/assumptions/6.md). -/
def State.busStep (s : State) (e : EngineId) (next : EngineOp → Option BusStep) : State :=
  match (s.eng e).op with
  | none => s
  | some o =>
    if (s.eng e).laneReset then s
    else
      match next o with
      | none => s
      | some st => s.modEng e fun g => { g with op := some { o with step := st } }

/-- SELECT_ANSWER (R83). -/
def execSelectAnswer (e : EngineId) (a : SelectReply) (s : State) : Result := .next (s.busStep e (·.afterSelect a))

/-- HEADER_READ_DONE (R84). -/
def execHeaderReadDone (e : EngineId) (bytes : Vector Byte 12) (s : State) : Result :=
  .next (s.busStep e (·.afterHeader bytes))

/-- READY_SIGNAL (R85): the reader is selected for the read-back. -/
def execReadySignal (e : EngineId) (s : State) : Result :=
  .next (s.busStep e fun o => if o.step = .ready then some .backSelect else none)

/-- BURN_TIMEOUT (R85): the reader is selected once more. -/
def execBurnTimeout (e : EngineId) (s : State) : Result :=
  .next (s.busStep e fun o => if o.step = .ready then some .timeoutSelect else none)

/-- Whether a byte of the operation in flight can stall the bus (R84). -/
def Engine.canStall (g : Engine) : Bool :=
  match g.op with
  | none => false
  | some o => o.step.reading && !g.laneReset

/-- BUS_STALL (R84): a lane reset runs; the operation ends ABANDONED at its end. -/
def execBusStall (e : EngineId) (s : State) : Result :=
  .next (if (s.eng e).canStall then s.modEng e fun g => { g with laneReset := true } else s)

/-! ### What a position makes of an outcome -/

/-- A CARD_FAULT (R78, R37, R119, R130). -/
def State.cardFault (s : State) (p : PosId) : State :=
  let x := s.pos p
  let s1 := s.modPos p fun y =>
    { (y.mapUnits fun u => { u with writtenOff := u.writtenOff + x.debt }) with
      debt := 0, doubt := none, faulty := true, retry := 0, cardLost := false }
  let s2 := s1.reportWrittenOff x.debt
  match x.state with
  | .metering | .lastUnit => s2.endCall p .cardFault
  | .recovering =>
    (s2.closeRecovery p .cardFault).modPos p fun y =>
      if x.cardLost then y.arriveVacant else y.arriveRefused .faulty
  | .vacant | .reading | .refused | .ready | .routed | .freeCall | .clearing | .blocked => s2

/-- A failed attempt (R73): the third takes a CARD_FAULT. -/
def State.strike (s : State) (p : PosId) : State :=
  if Config.retryLimit ≤ (s.pos p).retry + 1 then s.cardFault p
  else s.modPos p fun x => { x with retry := x.retry + 1 }

/-- A unit counted as burned (R74): debt down by 1, burned up by 1, retry count 0. -/
def State.unitBurned (s : State) (p : PosId) : State :=
  (s.modPos p fun x =>
    { (x.mapUnits fun u => { u with burned := u.burned + 1 }) with debt := x.debt - 1, retry := 0 }).reportBurned 1

/-- A unit burned with the counter one lower (R74, R77): remaining down by 1. -/
def State.unitDone (s : State) (p : PosId) : State :=
  (s.unitBurned p).modPos p fun x => { x with remaining := x.remaining - 1 }

/-- A counter lower than one less (R76, R77): counted as burned; remaining takes the counter read; a debt above it makes
a CARD_FAULT, and otherwise METERING may give way to LAST_UNIT. -/
def State.unitsLost (s : State) (p : PosId) (counter : Nat) : State :=
  let s1 := (s.unitBurned p).modPos p fun x => { x with remaining := counter }
  if counter < (s1.pos p).debt then s1.cardFault p else s1.modPos p (·.lastUnitTest)

/-- The anomaly mark of the call or recovery is set (R76, R77). -/
def Position.markAnomaly (x : Position) : Position := x.mapUnits fun u => { u with anomaly := true }

/-- Doubt is set with the counter before, the remaining held (R75). -/
def Position.setDoubt (x : Position) : Position := { x with doubt := some x.remaining }

/-- A BURN's outcome at the position (R74 to R76). `before` is the counter before that the engine took. -/
def State.burnOutcome (s : State) (p : PosId) (before : Nat) (o : OpOutcome) : State :=
  match o with
  | .done _ => s.unitDone p
  | .notTaken _ => s.strike p
  | .timeout => (s.modPos p (·.setDoubt)).strike p
  | .busFault | .cardGone | .abandoned => s.modPos p (·.setDoubt)
  | .anomaly counter =>
    let s1 := s.modPos p (·.markAnomaly)
    if counter + 1 < before then s1.unitsLost p counter else s1.cardFault p
  | .read _ | .checkFail | .noCard => s

/-- Another card than the held one is found in the slot (R77): taken as a withdrawal of the held card; where that
withdrawal has been taken already, nothing more (R119). -/
def State.otherCard (s : State) (p : PosId) : State :=
  if (s.pos p).cardLost then s.modPos p fun x => { x with cardLeft := true } else s.cardLeaves p

/-- A VERIFY READ at a position with doubt (R77). -/
def State.resolveVerify (s : State) (p : PosId) (before : Nat) (h : Header) : State :=
  if (s.pos p).key ≠ some h.key then s.otherCard p
  else
    let s1 := s.modPos p fun x => { x with doubt := none }
    if h.counter + 1 = before then s1.unitDone p
    else if h.counter = before then s1
    else
      let s2 := s1.modPos p (·.markAnomaly)
      if h.counter + 1 < before then s2.unitsLost p h.counter else s2.cardFault p

/-- A VERIFY's outcome at the position (R73, R77). -/
def State.verifyOutcome (s : State) (p : PosId) (o : OpOutcome) : State :=
  match o with
  | .read h =>
    match (s.pos p).doubt with
    | none => s
    | some before => s.resolveVerify p before h
  | .checkFail | .noCard => if (s.pos p).present then s.strike p else s
  | .busFault | .abandoned | .done _ | .notTaken _ | .anomaly _ | .cardGone | .timeout => s

/-- The card a READ identifies is held (R18, R21). -/
def Position.hold (h : Header) (remaining : Nat) (x : Position) : Position :=
  { x with identity := some { key := h.key, face := h.face }, remaining := remaining }

/-- An IDENTIFY READ at a position in READING: the first row of R21 that applies. -/
def State.identifyRead (s : State) (p : PosId) (h : Header) : State :=
  let s0 := s.modPos p fun x => { x with retry := 0 }
  if h.kind ≠ Config.unitCardKind then s0.modPos p (·.arriveRefused .foreign)
  else if h.face = 0 ∨ Config.faceMax < h.face then s0.modPos p (·.arriveRefused .invalid)
  else if (s.tearEntry h.key).isSome then (s0.modPos p (·.hold h (min h.counter h.face))).enterRecovering p
  else if h.face < h.counter then s0.modPos p (·.arriveRefused .invalid)
  else if h.counter = 0 then s0.modPos p fun x => (x.hold h 0).arriveRefused .empty
  else (s0.modPos p (·.hold h h.counter)).arriveReady p

/-- A failed IDENTIFY (R22): the third refuses the card as UNREADABLE. -/
def Position.misread (x : Position) : Position :=
  if Config.retryLimit ≤ x.retry + 1 then { x with retry := 0 }.arriveRefused .unreadable
  else { x with retry := x.retry + 1 }

/-- An IDENTIFY's outcome at the position (R21, R22). -/
def State.identifyOutcome (s : State) (p : PosId) (o : OpOutcome) : State :=
  if (s.pos p).state = .reading then
    match o with
    | .read h => s.identifyRead p h
    | .checkFail | .noCard => if (s.pos p).present then s.modPos p (·.misread) else s
    | .busFault | .abandoned | .done _ | .notTaken _ | .anomaly _ | .cardGone | .timeout => s
  else s

/-- The outcome of an operation, unless it carries the discard mark (R23). -/
def State.takeOutcome (s : State) (p : PosId) (op : EngineOp) (o : OpOutcome) : State :=
  match op.op with
  | .identify => s.identifyOutcome p o
  | .verify => s.verifyOutcome p o
  | .burn => s.burnOutcome p op.before o

/-- The second part of a completion at a position whose card lost mark is still set (R119, R120, R130). -/
def State.passLost (s : State) (p : PosId) : State :=
  if (s.pos p).cardLost then
    if (s.pos p).state = .recovering then s.loseRecovery p else s.passDebt p
  else s

/-- Whether the operation in flight at a position carries the discard mark. -/
def Position.discarding (x : Position) : Bool :=
  match x.inFlight with
  | none => false
  | some f => f.discard

/-- A completion at the position (R89, R101, R119): the outcome, the passing a withdrawal waited for, the finish of a
clearing or recovery, the pending allocation (R108). -/
def State.takeCompletion (s : State) (p : PosId) (op : EngineOp) (o : OpOutcome) : State :=
  let s1 := s.modPos p fun x => { x with inFlight := none }
  let s2 := if (s.pos p).discarding then s1 else s1.takeOutcome p op o
  ((s2.passLost p).settle p).applyPendingAllocation p

/-! ### The completion at the engine -/

/-- The lane state after a completion (R91, R92). -/
def Engine.laneAfter (g : Engine) (o : OpOutcome) : LaneState :=
  if g.disablePending then .disabled
  else
    match o, g.lane with
    | .busFault, .inService => .suspect
    | .busFault, .suspect => .faulted
    | .busFault, l => l
    | .abandoned, l => l
    | _, .suspect => .inService
    | _, l => l

/-- The engine after a completion: idle, its lane state updated, disable pending cleared (R89, R92). -/
def Engine.complete (o : OpOutcome) (g : Engine) : Engine :=
  { g with op := none, laneReset := false, lane := g.laneAfter o, disablePending := false }

/-- A candidate of an engine other than one position stands in class A. -/
def State.othersUrgent (s : State) (e : EngineId) (p : PosId) : Bool := (s.members e .a).any fun q => q != p

/-- The conditions of a burst continuation (R105). -/
def State.continues (s : State) (e : EngineId) (p : PosId) : Bool :=
  (s.pos p).pendingOp = some .burn && engineOf p (s.pos p).allocation = e &&
    (s.eng e).burst < (s.eng e).grantLength && !s.othersUrgent e p && (s.eng e).free

/-- After a DONE the engine keeps the position for a further BURN where it may (R105); otherwise the burst is over. -/
def State.burstOn (s : State) (e : EngineId) (p : PosId) (o : OpOutcome) : State :=
  match o with
  | .done _ =>
    if s.continues e p then s.grant e p .burn (s.eng e).pointer ((s.eng e).burst + 1)
    else s.modEng e fun g => { g with burst := 0 }
  | .read _ | .checkFail | .noCard | .notTaken _ | .anomaly _ | .cardGone | .timeout | .busFault | .abandoned =>
    s.modEng e fun g => { g with burst := 0 }

/-- The completion of an operation (R89, R92, R104, R105, R108, R110). -/
def State.complete (s : State) (e : EngineId) (op : EngineOp) (o : OpOutcome) : State :=
  let p := op.position
  let s1 := (s.modEng e (·.complete o)).modCounts e (·.completed o)
  let s2 := s1.takeCompletion p op o
  let s3 := if (s.eng e).laneAfter o = .faulted then s2.relieveLane e else s2
  ((s3.derive p).burstOn e p o).serve

/-- The outcome whose completion is due (R89): that of a bus part that has ended, or ABANDONED of a lane reset (R84). -/
def Engine.due (g : Engine) : Option (EngineOp × OpOutcome) :=
  match g.op with
  | none => none
  | some op =>
    if g.laneReset then some (op, .abandoned)
    else
      match op.step with
      | .ended o => some (op, o)
      | .select | .read | .reread _ | .ready | .timeoutSelect | .backSelect | .backRead | .backReread => none

/-- The completion of an operation of one kind, where it is due. -/
def State.completeKind (s : State) (e : EngineId) (kind : CardOp) : State :=
  match (s.eng e).due with
  | none => s
  | some (op, o) => if op.op = kind then s.complete e op o else s

/-- IDENTIFY_COMPLETION (R21, R22, R89). -/
def execIdentifyCompletion (e : EngineId) (s : State) : Result := .next (s.completeKind e .identify)

/-- VERIFY_COMPLETION (R77, R89). -/
def execVerifyCompletion (e : EngineId) (s : State) : Result := .next (s.completeKind e .verify)

/-- BURN_COMPLETION (R74 to R76, R89). -/
def execBurnCompletion (e : EngineId) (s : State) : Result := .next (s.completeKind e .burn)

/-! ### The bus test -/

/-- An engine enters TESTING and its bus test starts (R93). -/
def Engine.startTest (g : Engine) : Engine := { g with lane := .testing, testTimeLeft := Config.busTestMs }

/-- An engine enters another state than TESTING, in which no test time is held (R90). -/
def Engine.leaveTest (l : LaneState) (g : Engine) : Engine := { g with lane := l, testTimeLeft := 0 }

/-- BUS_TEST_END (R93): PASS takes the lane into IN_SERVICE and the relieved positions home (R111), FAIL into FAULTED
with auto-relief (R110). -/
def execBusTestEnd (e : EngineId) (pass : Bool) (s : State) : Result :=
  .next
    (if (s.eng e).lane = .testing then
      if pass then ((s.modEng e (·.leaveTest .inService)).takeHome e).serve
      else ((s.modEng e (·.leaveTest .faulted)).relieveLane e).serve
    else s)

/-! ### Requests on engines -/

/-- LANE TEST (R94). -/
def laneTestRule (e : EngineId) (s : State) : State × Reply :=
  if (s.eng e).lane = .faulted then accept (s.modEng e (·.startTest)) else refuse s .wrongState

def execLaneTest (e : Byte) (s : State) : Result := .next (s.request (.laneTest e) (onEngine e laneTestRule))

/-- LANE ENABLE (R96). -/
def laneEnableRule (e : EngineId) (s : State) : State × Reply :=
  if (s.eng e).lane = .disabled then accept (s.modEng e (·.startTest)) else refuse s .wrongState

def execLaneEnable (e : Byte) (s : State) : Result := .next (s.request (.laneEnable e) (onEngine e laneEnableRule))

/-- An engine after LANE DISABLE (R95). -/
def Engine.disable (g : Engine) : Engine :=
  match g.lane with
  | .testing | .faulted => g.leaveTest .disabled
  | .inService | .suspect => if g.op.isSome then { g with disablePending := true } else g.leaveTest .disabled
  | .disabled => g

/-- LANE DISABLE (R95). -/
def laneDisableRule (e : EngineId) (s : State) : State × Reply := accept (s.modEng e (·.disable))

def execLaneDisable (e : Byte) (s : State) : Result := .next (s.request (.laneDisable e) (onEngine e laneDisableRule))

/-- The settings of an engine; ER holds no auto-relief mark (R106). -/
def Engine.setMode (e : EngineId) (m : OrderMode) (len : Nat) (auto : Bool) (g : Engine) : Engine :=
  { g with mode := m, grantLength := len, autoRelief := if e = reliefEngine then g.autoRelief else auto }

/-- LANE MODE with values in their ranges (R106): a mark turned on at a FAULTED lane relieves at once (R109). -/
def setLaneMode (e : EngineId) (m : OrderMode) (len : Nat) (auto : Bool) (s : State) : State :=
  let s1 := s.modEng e (·.setMode e m len auto)
  if auto && !(s.eng e).autoRelief then (s1.relieveLane e).serve else s1

/-- LANE MODE (R106). -/
def laneModeRule (e mode len auto : Byte) (s : State) : State × Reply :=
  match engineOfByte e, orderModeOf mode, markOf auto with
  | some k, some m, some a =>
    if 1 ≤ len.toNat ∧ len.toNat ≤ 8 ∧ ¬(k = reliefEngine ∧ a = true) then accept (setLaneMode k m len.toNat a s)
    else refuse s .badValue
  | _, _, _ => refuse s .badValue

def execLaneMode (e mode len auto : Byte) (s : State) : Result :=
  .next (s.request (.laneMode e mode len auto) (laneModeRule e mode len auto))

end Sys2Proof.Machine
end

