-- ==== Sys2Proof/Machine/Positions.lean ====
section
/-!
DEFINITION. The requests on positions: CHANGES, POSITION, ROUTE, RELEASE, BLOCK, UNBLOCK and ALLOCATE (02, 06, 10).
-/

namespace Sys2Proof.Machine

/-! ### Reading -/

/-- The members of the change set that one CHANGES returns (R157). -/
def State.changesTaken (s : State) : List PosId := s.changeSet.take Config.changesMax

/-- The changed marks of the positions returned are cleared (R157). -/
def State.clearChanged (s : State) (ps : List PosId) : State :=
  s.mapPos fun p x => if ps.contains p then { x with changed := false } else x

/-- CHANGES (R157). -/
def changesRule (s : State) : State × Reply :=
  let taken := s.changesTaken
  (s.clearChanged taken,
    .accepted (changesFields (s.changeSet.length - taken.length) (taken.map fun p => summaryBytes p (s.pos p))))

def execChanges (s : State) : Result := .next (s.request .changes changesRule)

/-- POSITION (R43). -/
def positionRule (p : PosId) (s : State) : State × Reply := (s, .accepted (positionFields p (s.pos p)))

def execPosition (p : Byte) (s : State) : Result := .next (s.request (.position p) (onPosition p positionRule))

/-! ### ROUTE -/

/-- The call context created at ROUTE (R27, R28). -/
def Call.start (kind : CallKind) (cls : Fin 16) (now : Word32) : Call :=
  { kind := kind
    cls := cls
    setup := now
    answer := none
    tariff := none
    bandPending := false
    segments := []
    merged := false
    charged := 0
    units := .zero
    endCause := none
    duration := 0 }

/-- The first test of R26 that a ROUTE fails, if any. -/
def routeRefusal (p : PosId) (cls : Fin 16) (s : State) : Option RefusalCode :=
  let x := s.pos p
  let e := s.tariff.lookup cls
  if x.profile = .free && !e.isFree then some .badClass
  else if !(x.state = .ready || (e.isFree && x.state = .vacant)) then some .wrongState
  else if x.hook.accepted ≠ some .off then some .onHook
  else if !e.defined then some .tariffUndefined
  else if !e.isFree && x.remaining < e.initial + e.step then some .insufficient
  else if !s.admits then some .queueFull
  else if !e.isFree && !(s.eng (engineOf p x.allocation)).lane.usable then some .noEngine
  else none

/-- A ROUTE accepted for a charged class (R27): ANSWER_WAIT runs. -/
def startCharged (p : PosId) (cls : Fin 16) (s : State) : State :=
  s.modPos p fun x =>
    ({ (x.enter .routed) with
        reservation := true
        call := some (.start .call cls s.link.stamp)
        oneShot := { kind := .answerWait, count := s.settings.answerWait * 100 } } : Position).derive

/-- A ROUTE accepted for a free class (R28). -/
def startFree (p : PosId) (cls : Fin 16) (s : State) : State :=
  (s.modPos p fun x =>
    ({ (x.enter .freeCall) with
        reservation := true
        call := some (.start .free cls s.link.stamp) } : Position).derive).modTotals
      fun t => { t with freeCalls := advance t.freeCalls 1 }

/-- ROUTE (R26 to R28). -/
def routeRule (cls : Byte) (p : PosId) (s : State) : State × Reply :=
  match classOf cls with
  | none => refuse s .badValue
  | some c =>
    match routeRefusal p c s with
    | some code => refuse s code
    | none => accept (if (s.tariff.lookup c).isFree then startFree p c s else startCharged p c s)

def execRoute (p cls : Byte) (s : State) : Result := .next (s.request (.route p cls) (onPosition p (routeRule cls)))

/-! ### RELEASE, BLOCK, UNBLOCK -/

/-- RELEASE (R34). -/
def releaseRule (p : PosId) (s : State) : State × Reply :=
  if (s.pos p).state.inCall then accept ((s.endCall p .host).conclude p)
  else if (s.pos p).state = .clearing then accept s
  else refuse s .wrongState

def execRelease (p : Byte) (s : State) : Result := .next (s.request (.release p) (onPosition p releaseRule))

/-- Block pending is set. -/
def Position.setBlockPending (x : Position) : Position := { x with blockPending := true }

/-- A position after BLOCK (R38). -/
def State.blockPosition (s : State) (p : PosId) : State :=
  match (s.pos p).state with
  | .vacant | .ready | .refused => (s.modPos p (·.arriveBlocked)).conclude p
  | .reading | .recovering => s.modPos p (·.setBlockPending)
  | .routed | .metering | .lastUnit | .freeCall => ((s.modPos p (·.setBlockPending)).endCall p .blocked).conclude p
  | .clearing => (s.modPos p (·.setBlockPending)).conclude p
  | .blocked => s

/-- BLOCK (R38). -/
def blockRule (p : PosId) (s : State) : State × Reply := accept (s.blockPosition p)

def execBlock (p : Byte) (s : State) : Result := .next (s.request (.block p) (onPosition p blockRule))

/-- A position after UNBLOCK (R40). -/
def Position.unblock (x : Position) : Position :=
  if x.profile = .card && x.present then x.startReading else x.enter .vacant

/-- UNBLOCK (R40). -/
def unblockRule (p : PosId) (s : State) : State × Reply :=
  if (s.pos p).state = .blocked ∧ (s.pos p).profile ≠ .unused then accept ((s.modPos p (·.unblock)).conclude p)
  else refuse s .wrongState

def execUnblock (p : Byte) (s : State) : Result := .next (s.request (.unblock p) (onPosition p unblockRule))

/-! ### ALLOCATE -/

/-- A position's allocation after ALLOCATE (R108). -/
def State.allocate (s : State) (p : PosId) (a : Allocation) : State :=
  let s1 := s.modPos p fun x => { x with relieved := false }
  if (s.pos p).inFlight.isSome then s1.modPos p fun x => { x with pendingAlloc := some a }
  else (s1.setAllocation p a).serve

/-- ALLOCATE (R108). -/
def allocateRule (alloc : Byte) (p : PosId) (s : State) : State × Reply :=
  match allocationOf alloc with
  | none => refuse s .badValue
  | some a => accept (s.allocate p a)

def execAllocate (p alloc : Byte) (s : State) : Result :=
  .next (s.request (.allocate p alloc) (onPosition p (allocateRule alloc)))

end Sys2Proof.Machine
end

