-- ==== Sys2Proof/Machine/Records.lean ====
section
/-!
DEFINITION. The requests on the record queue (08) and on the tear list (07), and the listed-card notice (R124).
-/

namespace Sys2Proof.Machine

/-- RECORD PEEK (R142). -/
def recordPeekRule (s : State) : State × Reply :=
  match s.queue.records with
  | [] => refuse s .empty
  | r :: _ => (s, .accepted (byte1 s.queue.records.length ++ byte1 s.reservations ++ recordBytes r))

def execRecordPeek (s : State) : Result := .next (s.request .recordPeek recordPeekRule)

/-- A freed place is offered to the lowest member of the wait set (R141). -/
def State.offerPlace (s : State) : State :=
  match s.waitSet with
  | [] => s
  | p :: _ => (s.admitRecovery p).conclude p

/-- RECORD RELEASE (R143). -/
def recordReleaseRule (seq : Word16) (s : State) : State × Reply :=
  match s.queue.records with
  | [] => refuse s .empty
  | r :: rest =>
    if r.sequence = seq then accept (s.modQueue fun q => { q with records := rest }).offerPlace
    else refuse s .notOldest

def execRecordRelease (seq : Word16) (s : State) : Result :=
  .next (s.request (.recordRelease seq) (recordReleaseRule seq))

/-- TEAR READ (R131). -/
def tearReadRule (index : Byte) (s : State) : State × Reply :=
  if Config.tearPlaces ≤ index.toNat then refuse s .badValue
  else
    match s.tear.entries[index.toNat]? with
    | none => refuse s .notFound
    | some t => (s, .accepted (byte1 s.tear.entries.length ++ tearEntryBytes t))

def execTearRead (index : Byte) (s : State) : Result := .next (s.request (.tearRead index) (tearReadRule index))

/-- TEAR DELETE (R132). -/
def tearDeleteRule (series : Word16) (serial : Word32) (s : State) : State × Reply :=
  let k : CardKey := { series := series, serial := serial }
  match s.tearEntry k with
  | none => refuse s .notFound
  | some t => accept (((s.modTear (·.remove k)).reportWrittenOff t.total).releaseWaiters k)

def execTearDelete (series : Word16) (serial : Word32) (s : State) : Result :=
  .next (s.request (.tearDelete series serial) (tearDeleteRule series serial))

/-- A position takes its listed-card notice (R124): in READY, with the card it holds still listed, it enters
RECOVERING. -/
def State.takeNotice (s : State) (p : PosId) (k : CardKey) : State :=
  let s1 := s.modPos p fun x => { x with notice := none }
  if (s.pos p).state = .ready && (s.pos p).key = some k && (s.tearEntry k).isSome then
    (s1.enterRecovering p).conclude p
  else s1

/-- LISTED_CARD_NOTICE (R124). -/
def execListedCardNotice (p : PosId) (s : State) : Result :=
  .next
    (match (s.pos p).notice with
    | none => s
    | some k => s.takeNotice p k)

end Sys2Proof.Machine
end

