-- ==== Sys2Proof/Machine/Accounts.lean ====
section
/-!
DEFINITION. The accounting unit's own events (09): snapshots and COUNTERS.
-/

namespace Sys2Proof.Machine

/-- The seven counts of an engine in the row order of R147. -/
def EngineCounts.list (c : EngineCounts) : List Nat :=
  [c.grants, c.done, c.notTaken, c.timeout, c.cardGone, c.busFault, c.abandoned]

/-- The five global counts in the row order of R147. -/
def GlobalCounts.list (g : GlobalCounts) : List Nat :=
  [g.withdrawals, g.evictions, g.debtLimits, g.forgone, g.discarded]

/-- The forty period counters in the order of R150. -/
def Accounting.counts (a : Accounting) : List Nat := a.engines.toList.flatMap (·.list) ++ a.global.list

/-- The copy of a period counter, with its overflow mark (R148). -/
def snapCount (c : Nat) : SnapCount := { count := c, overflow := c = Config.counterTop }

/-- A snapshot event (R148). An expiry still to be taken stays so: it is a snapshot event of its own (R149). -/
def State.takeSnapshot (s : State) : State :=
  (s.modAcct fun a =>
    { a with
      snapshot := some { counts := a.counts.map snapCount, stamp := s.link.stamp }
      engines := Vector.replicate 5 .zero
      global := .zero
      intervalLeft := a.interval }).modLink fun l => { l with snapshotReady := true }

/-- SNAPSHOT (R150). -/
def snapshotRule (s : State) : State × Reply := (s.takeSnapshot, .accepted (bytes32 s.link.stamp))

def execSnapshot (s : State) : Result := .next (s.request .snapshot snapshotRule)

/-- The expiry of the snapshot interval timer is taken (R149). -/
def State.takeExpiry (s : State) : State := (s.modAcct fun a => { a with intervalDue := false }).takeSnapshot

/-- SNAPSHOT_INTERVAL_EXPIRY (R149). -/
def execSnapshotIntervalExpiry (s : State) : Result := .next (if s.acct.intervalDue then s.takeExpiry else s)

/-- COUNTERS (R150). -/
def countersRule (s : State) : State × Reply := (s, .accepted (countersFields s.acct))

def execCounters (s : State) : Result := .next (s.request .counters countersRule)

end Sys2Proof.Machine
end

