-- ==== Sys2Proof/Machine/Reset.lean ====
section
/-!
DEFINITION. POWER_ON_RESET, and the RESTART request with its steps in the order of R44.
-/

namespace Sys2Proof.Machine

/-- POWER_ON_RESET (R14 and the reset rules of every block); the commands still to come stay in the queue
(notes/assumptions/14.md). -/
def execPowerOnReset (s : State) : Result := .next { State.reset with pending := s.pending }

/-- What an ABANDONED completion of RESTART does to a position (R44 step 1, R75): a BURN leaves doubt. -/
def Position.abandon (op : CardOp) (x : Position) : Position :=
  let y := { x with inFlight := none }
  if op = .burn && !x.discarding then y.setDoubt else y

/-- An engine at RESTART (R98): its operation is cut off, disable pending takes effect, a bus test starts again. -/
def Engine.restart (g : Engine) : Engine :=
  let l := if g.disablePending && g.op.isSome then .disabled else g.lane
  { g with
    op := none
    laneReset := false
    disablePending := false
    lane := l
    testTimeLeft := if l = .testing then Config.busTestMs else g.testTimeLeft
    burst := 0 }

/-- Step 1 of R44 at one engine (R98, R108). -/
def State.restartEngine (s : State) (e : EngineId) : State :=
  match (s.eng e).op with
  | none => s.modEng e (·.restart)
  | some op =>
    let s1 := (s.modEng e (·.restart)).modCounts e (·.completed .abandoned)
    (s1.modPos op.position (·.abandon op.op)).applyPendingAllocation op.position

/-- The end cause and duration of a call that RESTART ends; a call in CLEARING keeps its own (R44 step 2). -/
def Position.restartCause (now : Word32) (x : Position) : Position :=
  if x.state = .clearing then x else x.mapCall (·.finish .restart now)

/-- Step 2 of R44 at one position: the call ends, its debt is passed, its record is written. -/
def State.restartCall (s : State) (p : PosId) : State :=
  if (s.pos p).state.inCall || (s.pos p).state = .clearing then
    ((s.modPos p (·.restartCause s.link.stamp)).passDebt p).closeCall p
  else s

/-- Step 3 of R44 at one position: a recovery that has taken its entry returns its debt and writes its record. -/
def State.restartRecovery (s : State) (p : PosId) : State :=
  if (s.pos p).state = .recovering && (s.pos p).recovery.isSome then (s.passDebt p).closeRecovery p .restart else s

/-- Steps 4 to 7 of R44 at one position (R15, R79). The profile, allocation, relieved mark and freeze mark are kept. -/
def Position.restart (x : Position) : Position :=
  { x with
    state := if x.state = .blocked || x.blockPending then .blocked else .vacant
    identity := none
    remaining := 0
    faulty := false
    debt := 0
    doubt := none
    retry := 0
    refusal := none
    pendingOp := none
    inFlight := none
    call := none
    recovery := none
    reservation := false
    cardLost := false
    cardLeft := false
    blockPending := false
    notice := none
    hook := .unknown
    card := .unknown
    line := .unknown
    lineEnable := false
    forcedClear := false
    tone := false
    unitTimer := { count := 0, running := false }
    oneShot := { kind := .stopped, count := 0 }
    changed := false }

/-- The effects of RESTART (R44, R163). -/
def State.restart (s : State) : State :=
  let s1 := allEngines.foldl State.restartEngine s
  let s2 := allPositions.foldl State.restartCall s1
  let s3 := allPositions.foldl State.restartRecovery s2
  (s3.mapPos fun _ x => x.restart).modLink fun l => { l with linkError := false }

/-- RESTART (R163). -/
def restartRule (s : State) : State × Reply := accept s.restart

def execRestart (s : State) : Result := .next (s.request .restart restartRule)

end Sys2Proof.Machine
end

