-- ==== Sys2Proof/Machine/Dispatch.lean ====
section
/-!
DEFINITION. The dispatch: one arm for each command, one direct call of its meaning.
-/

namespace Sys2Proof.Machine

def exec (i : Instr) (s : State) : Host.Outcome State Fault Refusal :=
  match i with
  | .powerOnReset => Sys2Proof.Machine.execPowerOnReset s
  | .inputSample p v => Sys2Proof.Machine.execInputSample p v s
  | .meteringTick => Sys2Proof.Machine.execMeteringTick s
  | .unitExpiry p => Sys2Proof.Machine.execUnitExpiry p s
  | .answerWaitExpiry p => Sys2Proof.Machine.execAnswerWaitExpiry p s
  | .toneExpiry p => Sys2Proof.Machine.execToneExpiry p s
  | .clearWaitExpiry p => Sys2Proof.Machine.execClearWaitExpiry p s
  | .stampAdvance => Sys2Proof.Machine.execStampAdvance s
  | .snapshotIntervalExpiry => Sys2Proof.Machine.execSnapshotIntervalExpiry s
  | .busTestEnd e pass => Sys2Proof.Machine.execBusTestEnd e pass s
  | .selectAnswer e a => Sys2Proof.Machine.execSelectAnswer e a s
  | .headerReadDone e bytes => Sys2Proof.Machine.execHeaderReadDone e bytes s
  | .readySignal e => Sys2Proof.Machine.execReadySignal e s
  | .burnTimeout e => Sys2Proof.Machine.execBurnTimeout e s
  | .busStall e => Sys2Proof.Machine.execBusStall e s
  | .identifyCompletion e => Sys2Proof.Machine.execIdentifyCompletion e s
  | .verifyCompletion e => Sys2Proof.Machine.execVerifyCompletion e s
  | .burnCompletion e => Sys2Proof.Machine.execBurnCompletion e s
  | .listedCardNotice p => Sys2Proof.Machine.execListedCardNotice p s
  | .frameDiscard why => Sys2Proof.Machine.execFrameDiscard why s
  | .frameGapTimeout => Sys2Proof.Machine.execFrameGapTimeout s
  | .unknownRequest type body => Sys2Proof.Machine.execUnknownRequest type body s
  | .responseSent => Sys2Proof.Machine.execResponseSent s
  | .status => Sys2Proof.Machine.execStatus s
  | .changes => Sys2Proof.Machine.execChanges s
  | .position p => Sys2Proof.Machine.execPosition p s
  | .route p cls => Sys2Proof.Machine.execRoute p cls s
  | .release p => Sys2Proof.Machine.execRelease p s
  | .block p => Sys2Proof.Machine.execBlock p s
  | .unblock p => Sys2Proof.Machine.execUnblock p s
  | .profile p prof => Sys2Proof.Machine.execProfile p prof s
  | .freeze p mark => Sys2Proof.Machine.execFreeze p mark s
  | .allocate p alloc => Sys2Proof.Machine.execAllocate p alloc s
  | .laneMode e mode len auto => Sys2Proof.Machine.execLaneMode e mode len auto s
  | .laneDisable e => Sys2Proof.Machine.execLaneDisable e s
  | .laneEnable e => Sys2Proof.Machine.execLaneEnable e s
  | .laneTest e => Sys2Proof.Machine.execLaneTest e s
  | .tariffStage cls band defined period step initial follow => Sys2Proof.Machine.execTariffStage cls band defined period step initial follow s
  | .tariffCopy => Sys2Proof.Machine.execTariffCopy s
  | .tariffCommit edition => Sys2Proof.Machine.execTariffCommit edition s
  | .tariffRead selector cls band => Sys2Proof.Machine.execTariffRead selector cls band s
  | .band b => Sys2Proof.Machine.execBand b s
  | .recordPeek => Sys2Proof.Machine.execRecordPeek s
  | .recordRelease seq => Sys2Proof.Machine.execRecordRelease seq s
  | .tearRead index => Sys2Proof.Machine.execTearRead index s
  | .tearDelete series serial => Sys2Proof.Machine.execTearDelete series serial s
  | .counters => Sys2Proof.Machine.execCounters s
  | .snapshot => Sys2Proof.Machine.execSnapshot s
  | .set code value => Sys2Proof.Machine.execSet code value s
  | .clock stamp => Sys2Proof.Machine.execClock stamp s
  | .clearAlerts alerts => Sys2Proof.Machine.execClearAlerts alerts s
  | .linkRate code => Sys2Proof.Machine.execLinkRate code s
  | .restart => Sys2Proof.Machine.execRestart s
  | .linkByteReceived b => Sys2Proof.Machine.execLinkByteReceived b s

end Sys2Proof.Machine
end

