-- ==== Sys2Proof/Safety.lean ====
section
/-!
DEFINITION. What the statements are about: the states the block can come to, and the laws the spec states for all of
them.
-/

namespace Sys2Proof.Machine

/-- The states the block comes to from power-on reset, when commands may arrive at any time at the back of the
queue. -/
inductive Reachable : State → Prop where
  | reset : Reachable State.reset
  | arrive (s : State) (c : Instr) (h : Reachable s) : Reachable { s with pending := s.pending ++ [c] }
  | step (s t : State) (h : Reachable s) (ht : step s = .next t) : Reachable t

/-- The debts of all positions (R146). -/
def State.debts (s : State) : Nat := (s.positions.toList.map (·.debt)).sum

/-- The units all tear entries carry, doubted units included (R116, R146). -/
def State.tornUnits (s : State) : Nat := (s.tear.entries.map (·.total)).sum

/-- The conservation of units (R146), modulo 2^32. -/
@[reducible] def State.Conserved (s : State) : Prop :=
  s.acct.totals.charged =
    s.acct.totals.burned + s.acct.totals.writtenOff + BitVec.ofNat 32 (s.debts + s.tornUnits)

/-- The line-enable output of a position is asserted exactly in the four call states (R10), forced clear is on only in
CLEARING (R11), tone only in LAST_UNIT (R12). -/
@[reducible] def Position.OutputsFollow (x : Position) : Prop :=
  x.lineEnable = x.state.inCall ∧ (x.forcedClear = true → x.state = .clearing) ∧
    (x.tone = true → x.state = .lastUnit)

/-- The settings lie in their ranges (R6, R64, R149). -/
@[reducible] def State.SettingsInRange (s : State) : Prop :=
  (2 ≤ s.depths.hook ∧ s.depths.hook ≤ 8) ∧ (2 ≤ s.depths.card ∧ s.depths.card ≤ 8) ∧
  (2 ≤ s.depths.line ∧ s.depths.line ≤ 8) ∧
  (1 ≤ s.settings.urgency ∧ s.settings.urgency ≤ 7) ∧
  (10 ≤ s.settings.answerWait ∧ s.settings.answerWait ≤ 300) ∧
  (5 ≤ s.settings.clearWait ∧ s.settings.clearWait ≤ 50) ∧
  (s.acct.interval = 0 ∨ (10 ≤ s.acct.interval ∧ s.acct.interval ≤ 3600))

/-! ### Words of the statements -/

/-- A request command is taken by its owner: no answer is pending, or it is the request handed on (R155). -/
@[reducible] def State.Takes (s : State) (c : Instr) : Prop := s.link.answerPending = false ∨ s.link.handed = some c

/-- Two records of a position that differ at most in the card operation that waits or runs for it. -/
def Position.SameButOp (x y : Position) : Prop := y = { x with pendingOp := y.pendingOp, inFlight := y.inFlight }

/-- Two states of an engine that differ at most in what a grant moves (R104). -/
def Engine.SameButGrant (g h : Engine) : Prop := h = { g with op := h.op, pointer := h.pointer, burst := h.burst }

/-- Two sets of period counters of an engine that differ at most in the grants. -/
def EngineCounts.SameButGrants (c d : EngineCounts) : Prop := d = { c with grants := d.grants }

/-- The second state is the first but for the card operations derived and granted at the end of the event (R101,
R104): nothing else differs. -/
def State.UpToGrants (u t : State) : Prop :=
  (∀ q, (u.pos q).SameButOp (t.pos q)) ∧
  (∀ e, (u.eng e).SameButGrant (t.eng e)) ∧
  (∀ e : EngineId, (u.acct.engines[e.val]).SameButGrants t.acct.engines[e.val]) ∧
  t = { u with positions := t.positions, engines := t.engines, acct := { u.acct with engines := t.acct.engines } }

/-- The second state is the first but for what the engines hold and count, and the card operations they run (R89 to
R92, R101, R104): nothing else differs. -/
def State.UpToEngines (u t : State) : Prop :=
  (∀ q, (u.pos q).SameButOp (t.pos q)) ∧
  t = { u with positions := t.positions, engines := t.engines, acct := { u.acct with engines := t.acct.engines } }

/-- An input after a sample (R3). -/
def Input.Sampled {α : Type} (depth : Nat) (v : α) (i j : Input α) : Prop :=
  (i.accepted = some v → j = { i with last := some v, run := 0 }) ∧
  (i.accepted ≠ some v → i.last ≠ some v →
    (1 < depth → j = { i with last := some v, run := 1 }) ∧
    (depth ≤ 1 → j = { accepted := some v, last := some v, run := 0 })) ∧
  (i.accepted ≠ some v → i.last = some v →
    (i.run + 1 < depth → j = { i with last := some v, run := i.run + 1 }) ∧
    (depth ≤ i.run + 1 → j = { accepted := some v, last := some v, run := 0 }))

/-- A further sample of this value completes the run of an input (R3). -/
@[reducible] def Input.Completes {α : Type} (depth : Nat) (v : α) (i : Input α) : Prop :=
  i.accepted ≠ some v ∧ i.last = some v ∧ depth ≤ i.run + 1

/-- An input just accepted at a value (R3). -/
def Input.acceptedAt {α : Type} (v : α) : Input α := { accepted := some v, last := some v, run := 0 }

/-- A position that has entered a state with every output off, no timer running and no refusal cause (R10 to R12, R19,
R62, R63). -/
def Position.rested (st : PosState) (x : Position) : Position :=
  { x with
    state := st
    lineEnable := false
    forcedClear := false
    tone := false
    oneShot := { x.oneShot with kind := .stopped }
    unitTimer := { x.unitTimer with running := false }
    refusal := none
    changed := true }

/-- A position refused with a cause (R24). -/
def Position.refusedWith (why : RefusalCause) (x : Position) : Position :=
  { (x.rested .refused) with refusal := some why }

/-- A position with its card forgotten (R18). -/
def Position.cardless (x : Position) : Position :=
  { x with identity := none, remaining := 0, faulty := false, retry := 0, cardLeft := false }

/-- A position that has arrived in VACANT (R36): BLOCKED where block pending is set (R39), on to READING where its card
contact is accepted PRESENT and its profile is CARD. -/
def Position.vacated (x : Position) : Position :=
  if x.blockPending = true then { (x.cardless.rested .blocked) with blockPending := false }
  else if x.card.accepted = some .present ∧ x.profile = .card then x.cardless.rested .reading
  else x.cardless.rested .vacant

/-- A position whose card owes nothing more (R37, R126): BLOCKED where block pending is set, REFUSED with cause EMPTY
where remaining is 0, READY otherwise. -/
def Position.cleared (x : Position) : Position :=
  if x.blockPending = true then { (x.cardless.rested .blocked) with blockPending := false }
  else if x.remaining = 0 then x.refusedWith .empty
  else x.rested .ready

/-- A position after the entry of a key has left the tear list (R126): one that waits in RECOVERING for it leaves. -/
def Position.released (k : CardKey) (x : Position) : Position :=
  if x.state = .recovering ∧ x.reservation = false ∧ x.key = some k then x.cleared else x

/-- Counts of units moved, in the call or in the recovery of a position (R17, R128). -/
def Position.counting (f : Units → Units) (x : Position) : Position :=
  { x with
    call := x.call.map fun c => { c with units := f c.units }
    recovery := x.recovery.map fun r => { r with units := f r.units } }

/-- A position that has entered CLEARING with a cause (R11, R17, R31); the clear wait is in tenths of a second. -/
def Position.inClearing (wait : Nat) (now : Word32) (why : EndCause) (x : Position) : Position :=
  { x with
    state := .clearing
    lineEnable := false
    tone := false
    refusal := none
    changed := true
    unitTimer := { x.unitTimer with running := false }
    forcedClear := x.line.accepted ≠ some .idle
    oneShot :=
      if x.line.accepted = some .idle then { x.oneShot with kind := .stopped }
      else { kind := .clearWait, count := wait * 10 }
    call := x.call.map fun c =>
      { c with endCause := some why, duration := (c.answer.map fun a => now - a).getD 0 } }

/-- Units charged into a call whose last segment is known (R66). -/
def Call.charging (n : Nat) (gs : List Segment) (g : Segment) (c : Call) : Call :=
  { c with charged := c.charged + n, segments := gs ++ [{ g with units := g.units + n }] }

/-- The charge is counted in the live charged total (R66). -/
def Accounting.plusCharged (n : Nat) (a : Accounting) : Accounting :=
  { a with totals := { a.totals with charged := a.totals.charged + BitVec.ofNat 32 n } }

/-- Units counted in the live burned total. -/
def Accounting.plusBurned (n : Nat) (a : Accounting) : Accounting :=
  { a with totals := { a.totals with burned := a.totals.burned + BitVec.ofNat 32 n } }

/-- Units counted in the live written-off total. -/
def Accounting.plusWrittenOff (n : Nat) (a : Accounting) : Accounting :=
  { a with totals := { a.totals with writtenOff := a.totals.writtenOff + BitVec.ofNat 32 n } }

/-- The record of a call (R136): a FREE record shows no segments and no units. -/
def Call.written (p : PosId) (card : Option CardKey) (seq : Word16) (why : EndCause) (c : Call) : CallRecord :=
  { sequence := seq
    kind := if c.kind = .free then .free else .call
    position := p
    card := card
    cls := some c.cls
    setup := c.setup
    answer := c.answer
    duration := c.duration
    segments := if c.kind = .free then [] else c.segments
    merged := c.merged && c.kind ≠ .free
    charged := if c.kind = .free then 0 else c.charged
    units :=
      if c.kind = .free then { burned := 0, writtenOff := 0, owedOut := 0, doubtOut := 0, anomaly := false }
      else c.units
    owedIn := none
    resolution := none
    endCause := why }

/-- The record of a recovery (R136). -/
def Recovery.written (p : PosId) (card : Option CardKey) (seq : Word16) (why : EndCause) (r : Recovery) : CallRecord :=
  { sequence := seq
    kind := .recovery
    position := p
    card := card
    cls := none
    setup := r.start
    answer := none
    duration := 0
    segments := []
    merged := false
    charged := 0
    units := r.units
    owedIn := some r.owedIn
    resolution := some r.resolution
    endCause := why }

/-- A record written at the newest place (R140). -/
def State.recorded (s : State) (r : CallRecord) : State :=
  { s with
    queue := { records := s.queue.records ++ [r], nextSequence := s.queue.nextSequence + 1 }
    acct := { s.acct with totals := { s.acct.totals with recordsWritten := s.acct.totals.recordsWritten + 1 } } }

/-- A position that has taken a tear entry against the counter its card last showed (R127, R128). -/
def Position.owing (t : TearEntry) (now : Word32) (x : Position) : Position :=
  let taken : Bool := t.inDoubt = some (x.remaining + 1)
  let notTaken : Bool := t.inDoubt = some x.remaining
  let burned := if (t.inDoubt.map fun b => decide (x.remaining < b)) = some true then 1 else 0
  let lost := if (t.inDoubt.map fun b => decide (b < x.remaining)) = some true then 1 else 0
  let owed := t.owed + if notTaken then 1 else 0
  let debt := min owed (min 7 x.remaining)
  { x with
    debt := debt
    doubt := none
    retry := 0
    recovery := some
      { owedIn := t.owed
        resolution :=
          if t.inDoubt = none then .noDoubt else if taken then .taken else if notTaken then .notTaken else .anomaly
        start := now
        units :=
          { burned := burned
            writtenOff := owed - debt + lost
            owedOut := 0
            doubtOut := 0
            anomaly := t.inDoubt ≠ none ∧ ¬taken ∧ ¬notTaken } } }

/-- A position holding its reservation has taken its entry out of the tear list (R126 to R128). -/
def State.handing (s : State) (p : PosId) (t : TearEntry) : State :=
  let units := (((s.pos p).owing t s.link.stamp).recovery.map (·.units)).getD .zero
  { (s.mapPos fun q x => if q = p then x.owing t s.link.stamp else x.released t.key) with
    tear := { s.tear with entries := s.tear.entries.filter fun x => x.key ≠ t.key }
    acct := (s.acct.plusBurned units.burned).plusWrittenOff units.writtenOff }

/-- The operation in flight at an engine stands at another step. -/
def State.opTo (s : State) (e : EngineId) (st : BusStep) : State :=
  s.modEng e fun g => { g with op := g.op.map fun o => { o with step := st } }

/-- An operation in flight at an engine whose completion with an outcome is due (R84, R89). -/
@[reducible] def Engine.Due (g : Engine) (op : EngineOp) (o : OpOutcome) : Prop :=
  g.op = some op ∧ ((g.laneReset = false ∧ op.step = .ended o) ∨ (g.laneReset = true ∧ o = .abandoned))

/-- An engine in service, with no disable pending, whose operation for a position is due with an outcome. -/
@[reducible] def State.DueAt (s : State) (e : EngineId) (p : PosId) (kind : CardOp) (before : Nat) (key : Option CardKey)
    (o : OpOutcome) : Prop :=
  (s.eng e).op = some { position := p, op := kind, step := .ended o, before := before, key := key } ∧
  (s.eng e).laneReset = false ∧ (s.eng e).lane = .inService ∧ (s.eng e).disablePending = false ∧
  (s.pos p).inFlight = some { engine := e, op := kind, discard := false } ∧ (s.pos p).pendingAlloc = none ∧
  (s.pos p).cardLost = false

/-- The command that brings the completion of an operation. -/
def completionOf : CardOp → EngineId → Instr
  | .identify => .identifyCompletion
  | .verify => .verifyCompletion
  | .burn => .burnCompletion

/-- The byte that names a position. -/
def posByte (p : PosId) : Byte := BitVec.ofNat 8 p.val

/-- The byte that names an engine. -/
def engByte (e : EngineId) : Byte := BitVec.ofNat 8 e.val

/-- The operation a position needs (R100). -/
def Position.Needs (x : Position) (o : Option CardOp) : Prop :=
  (x.state = .reading ∧ x.identity = none → o = some .identify) ∧
  (¬ (x.state = .reading ∧ x.identity = none) →
    (x.doubt ≠ none ∧ x.card.accepted = some .present ∧ x.cardLost = false ∧ x.faulty = false → o = some .verify) ∧
    (x.doubt = none ∧ 0 < x.debt ∧ x.card.accepted = some .present ∧ x.cardLost = false ∧ x.faulty = false →
      o = some .burn) ∧
    ((x.doubt = none ∧ x.debt = 0) ∨ x.card.accepted ≠ some .present ∨ x.cardLost = true ∨ x.faulty = true →
      o = none))

/-- The tests of R26 in their order, each with the refusal of a ROUTE that fails it. -/
def routeTests (s : State) (p : PosId) (c : Fin 16) : List (Bool × RefusalCode) :=
  let x := s.pos p
  let e := s.tariff.active.entry c s.tariff.band
  let free := e.defined && e.period = 0
  [(x.profile ≠ .free || free, .badClass),
   (x.state = .ready || (free && x.state = .vacant), .wrongState),
   (x.hook.accepted = some .off, .onHook),
   (e.defined, .tariffUndefined),
   (free || e.initial + e.step ≤ x.remaining, .insufficient),
   (s.queue.records.length + s.reservations < 64, .queueFull),
   (free || (s.eng (engineOf p x.allocation)).lane = .inService ||
      (s.eng (engineOf p x.allocation)).lane = .suspect, .noEngine)]

/-! ### Invariants -/

/-- No two entries of the tear list with one key, at most 32, each owing 0 to 8 units and at least one unit in all
(R116). -/
@[reducible] def TearList.Sound (l : TearList) : Prop :=
  l.entries.length ≤ 32 ∧ (l.entries.map (·.key)).Nodup ∧ ∀ t ∈ l.entries, t.owed ≤ 8 ∧ (1 ≤ t.owed ∨ t.inDoubt ≠ none)

/-- The queued sequences ascend by one modulo 65536 and end just below the next sequence (R140). -/
@[reducible] def RecordQueue.Consecutive (q : RecordQueue) : Prop :=
  ∀ i (h : i < q.records.length),
    (q.records[i]).sequence + BitVec.ofNat 16 (q.records.length - i) = q.nextSequence

/-- The law of the debt of a position (R65). -/
def Position.DebtLaw (x : Position) : Prop :=
  x.debt ≤ 7 ∧ x.debt ≤ x.remaining ∧ (x.identity = none → x.debt = 0) ∧ (x.doubt ≠ none → 1 ≤ x.debt)

/-- A position holds a reservation exactly in a call, in CLEARING, or in RECOVERING with its entry taken (R138). -/
def Position.ReservationLaw (x : Position) : Prop :=
  x.reservation = true ↔
    x.state ∈ [.routed, .metering, .lastUnit, .freeCall, .clearing] ∨ (x.state = .recovering ∧ x.recovery ≠ none)

/-- A call context stands exactly in a call and in CLEARING, and a recovery only in RECOVERING (R17, R128). -/
def Position.ContextLaw (x : Position) : Prop :=
  (x.call ≠ none ↔ x.state ∈ [.routed, .metering, .lastUnit, .freeCall, .clearing]) ∧
  (x.recovery ≠ none → x.state = .recovering)

/-- A card lost mark stands only while an operation runs at a position in CLEARING or RECOVERING whose card has left
(R118, R120, R130). -/
def Position.LossLaw (x : Position) : Prop :=
  x.cardLost = true →
    x.cardLeft = true ∧ x.inFlight ≠ none ∧ (x.state = .clearing ∨ x.state = .recovering)

/-- The operation in flight at an engine and the in-flight field of its position name each other, and the engine's lane
is in service or suspect (R90, R95). -/
def State.OperationsAgree (s : State) : Prop :=
  (∀ e op, (s.eng e).op = some op →
    (∃ f, (s.pos op.position).inFlight = some f ∧ f.engine = e ∧ f.op = op.op) ∧
    (s.eng e).lane ∈ [.inService, .suspect]) ∧
  (∀ p f, (s.pos p).inFlight = some f → ∃ op, (s.eng f.engine).op = some op ∧ op.position = p ∧ op.op = f.op)

end Sys2Proof.Machine
end

