-- ==== Sys2Proof/WellFormed.lean ====
section
/-!
DEFINITION. Which commands spell an event the spec gives. The operand types rule out nearly everything else; the two
checks left are on the frame that the link controller refuses itself.
-/

namespace Sys2Proof

/-- The body fits a frame: L counts type and body and is at most 250 (R153). -/
def bodyFits (body : List Byte) : Bool := body.length + 1 ≤ Config.frameLengthMax

/-- The check of a command. -/
def Instr.WellFormed : Instr → Bool
  | .unknownRequest type body => bodyFits body && refusedByLink type body
  | .powerOnReset | .inputSample _ _ | .meteringTick | .unitExpiry _ | .answerWaitExpiry _ | .toneExpiry _
  | .clearWaitExpiry _ | .stampAdvance | .snapshotIntervalExpiry | .busTestEnd _ _ | .selectAnswer _ _
  | .headerReadDone _ _ | .readySignal _ | .burnTimeout _ | .busStall _ | .identifyCompletion _
  | .verifyCompletion _ | .burnCompletion _ | .listedCardNotice _ | .frameDiscard _ | .frameGapTimeout
  | .responseSent | .linkByteReceived _ | .status | .changes | .position _ | .route _ _ | .release _ | .block _
  | .unblock _ | .profile _ _ | .freeze _ _ | .allocate _ _ | .laneMode _ _ _ _ | .laneDisable _ | .laneEnable _
  | .laneTest _ | .tariffStage _ _ _ _ _ _ _ | .tariffCopy | .tariffCommit _ | .tariffRead _ _ _ | .band _
  | .recordPeek | .recordRelease _ | .tearRead _ | .tearDelete _ _ | .counters | .snapshot | .set _ _ | .clock _
  | .clearAlerts _ | .linkRate _ | .restart => true

end Sys2Proof
end

