-- ==== Sys2Proof/Certificates/Slice0/Obligations.lean ====
section
/-!
DEFINITION. The statements. `u.UpToGrants t` says that t is u but for the card operations derived and granted at the
end of the event, so each statement of that shape is the command's effect and its frame at once.
-/

open Sys2Proof Sys2Proof.Machine Host

/-! ### Steps -/

/-- A step takes the command at the front of the queue and runs it on the state with the rest of the queue. -/
def Obligations.StepRunsFrontCommand : Prop :=
  ∀ (c : Instr) (rest : List Instr) (s : State), s.pending = c :: rest → step s = exec c { s with pending := rest }

/-- A step on an empty queue takes one millisecond from the bus tests that run and changes nothing else
(the model's choice, notes/assumptions/9.md). -/
def Obligations.IdleStepCountsTestTime : Prop :=
  ∀ s : State, s.pending = [] → ∃ t, step s = .next t ∧
    (∀ e, t.eng e =
      if (s.eng e).lane = .testing then { s.eng e with testTimeLeft := (s.eng e).testTimeLeft - 1 } else s.eng e) ∧
    t = { s with engines := t.engines }

/-- POWER_ON_RESET brings every state to the values given after power-on and keeps the commands still to come
(the queue: the model's choice, notes/assumptions/14.md). -/
def Obligations.PowerOnResetRestoresValues : Prop :=
  ∀ s : State, ∃ t, exec .powerOnReset s = .next t ∧ t.pending = s.pending ∧
    (∀ p, (t.pos p).hook = { accepted := none, last := none, run := 0 } ∧
      (t.pos p).card = { accepted := none, last := none, run := 0 } ∧
      (t.pos p).line = { accepted := none, last := none, run := 0 } ∧
      (t.pos p).freezeMark = false ∧ (t.pos p).lineEnable = false ∧ (t.pos p).forcedClear = false ∧
      (t.pos p).tone = false ∧ (t.pos p).unitTimer = { count := 0, running := false } ∧
      (t.pos p).oneShot = { kind := .stopped, count := 0 } ∧ (t.pos p).state = .vacant ∧ (t.pos p).profile = .card ∧
      (t.pos p).refusal = none ∧ (t.pos p).identity = none ∧ (t.pos p).remaining = 0 ∧ (t.pos p).faulty = false ∧
      (t.pos p).debt = 0 ∧ (t.pos p).doubt = none ∧ (t.pos p).retry = 0 ∧ (t.pos p).pendingOp = none ∧
      (t.pos p).inFlight = none ∧ (t.pos p).allocation = .home ∧ (t.pos p).relieved = false ∧
      (t.pos p).pendingAlloc = none ∧ (t.pos p).call = none ∧ (t.pos p).recovery = none ∧
      (t.pos p).reservation = false ∧ (t.pos p).blockPending = false ∧ (t.pos p).cardLost = false ∧
      (t.pos p).cardLeft = false ∧ (t.pos p).changed = false) ∧
    t.depths = { hook := 4, card := 6, line := 2 } ∧ t.settings = { urgency := 3, answerWait := 90, clearWait := 20 } ∧
    (∀ c b, t.tariff.active.entry c b = .undefined ∧ t.tariff.staged.entry c b = .undefined) ∧
    t.tariff.edition = 0 ∧ t.tariff.band = 0 ∧
    (∀ e, (t.eng e).lane = .testing ∧ (t.eng e).testTimeLeft = 50 ∧ (t.eng e).op = none ∧ (t.eng e).laneReset = false ∧
      (t.eng e).disablePending = false ∧ (t.eng e).mode = .fixed ∧ (t.eng e).pointer = 0 ∧ (t.eng e).grantLength = 4 ∧
      (t.eng e).burst = 0 ∧ (e ≠ reliefEngine → (t.eng e).autoRelief = true)) ∧
    t.tear = { entries := [], lastEviction := none } ∧ t.queue = { records := [], nextSequence := 0 } ∧
    t.acct.totals = .zero ∧ (∀ e : EngineId, t.acct.engines[e.val] = .zero) ∧ t.acct.global = .zero ∧
    t.acct.snapshot = none ∧ t.acct.interval = 0 ∧
    t.link.receiver = .hunting ∧ t.link.answerPending = false ∧ t.link.rate = 1 ∧ t.link.tearEvicted = false ∧
    t.link.snapshotReady = false ∧ t.link.linkError = false ∧ t.link.attnMask = 7 ∧ t.link.stamp = 0

/-! ### Supervision -/

/-- A sample of an unfrozen position moves its input by the table of R3, one that is not accepted changes nothing else,
and a frozen position is not sampled. -/
def Obligations.InputDebounceStep : Prop :=
  ∀ (s : State) (p : PosId),
    (∀ v, (s.pos p).frozen = true → exec (.inputSample p v) s = .next s) ∧
    (∀ v, (s.pos p).frozen = false → ∃ t, exec (.inputSample p (.hook v)) s = .next t ∧
      Input.Sampled s.depths.hook v (s.pos p).hook (t.pos p).hook ∧
      ((t.pos p).hook.accepted = (s.pos p).hook.accepted →
        t = s.modPos p fun x => { x with hook := (t.pos p).hook })) ∧
    (∀ v, (s.pos p).frozen = false → ∃ t, exec (.inputSample p (.card v)) s = .next t ∧
      Input.Sampled s.depths.card v (s.pos p).card (t.pos p).card ∧
      ((t.pos p).card.accepted = (s.pos p).card.accepted →
        t = s.modPos p fun x => { x with card := (t.pos p).card })) ∧
    (∀ v, (s.pos p).frozen = false → ∃ t, exec (.inputSample p (.line v)) s = .next t ∧
      Input.Sampled s.depths.line v (s.pos p).line (t.pos p).line ∧
      ((t.pos p).line.accepted = (s.pos p).line.accepted →
        t = s.modPos p fun x => { x with line := (t.pos p).line }))

/-- An insertion at a VACANT position with profile CARD takes it to READING with the retry count 0 and its IDENTIFY
derived, standing as a candidate or granted. -/
def Obligations.InsertionStartsReading : Prop :=
  ∀ (s : State) (p : PosId), (s.pos p).frozen = false → Input.Completes s.depths.card .present (s.pos p).card →
    (s.pos p).state = .vacant → (s.pos p).profile = .card → (s.pos p).inFlight = none → (s.pos p).identity = none →
    ∃ t, exec (.inputSample p (.card .present)) s = .next t ∧
      (s.modPos p fun x => { (x.rested .reading) with card := .acceptedAt .present, retry := 0 }).UpToGrants t ∧
      ((t.pos p).pendingOp = some .identify ∨ ((t.pos p).inFlight.map (·.op)) = some .identify)

/-- A withdrawal in ROUTED, METERING or LAST_UNIT ends the call with CARD_WITHDRAWN and is counted. With nothing in flight
the debt and the doubt pass to the tear list at once, and with an operation in flight they wait for its completion. It
leaves a call in CLEARING its end cause, and it ends a recovery, with its record where the entry had been taken. In every
other state it does what its table gives. Passing makes one creation request of what is owed. The tear list appends an
entry, or merges it into the one of the same key with the units above 8 written off, or evicts the oldest first where it is
full; READY positions holding the key are handed the notice (kept at the position, notes/assumptions/11.md). -/
def Obligations.WithdrawalEndsCall : Prop :=
  (∀ (s : State) (p : PosId), (s.pos p).frozen = false → (s.pos p).card.accepted = some .present →
    Input.Completes s.depths.card .absent (s.pos p).card →
    let gone := fun x : Position => ({ x with card := .acceptedAt .absent, cardLeft := true } : Position)
    let answers := fun u : State => ∃ t, exec (.inputSample p (.card .absent)) s = .next t ∧ u.UpToGrants t
    ((s.pos p).state ∈ [.vacant, .blocked] →
      answers (s.modPos p fun x => { x with card := .acceptedAt .absent })) ∧
    ((s.pos p).state = .reading →
      ∃ t, exec (.inputSample p (.card .absent)) s = .next t ∧ (s.modPos p fun x => (gone x).vacated).UpToGrants t ∧
        (∀ f, (s.pos p).inFlight = some f → (s.pos p).pendingOp = none →
          (t.pos p).inFlight = some { f with discard := true })) ∧
    ((s.pos p).state ∈ [.refused, .ready] → answers (s.modPos p fun x => (gone x).vacated)) ∧
    ((s.pos p).state = .freeCall →
      answers (s.modPos p fun x => { (gone x) with identity := none, remaining := 0, faulty := false, retry := 0 })) ∧
    ((s.pos p).state ∈ [.routed, .metering, .lastUnit] →
      let u : State :=
        { (s.modPos p fun x => (gone x).inClearing s.settings.clearWait s.link.stamp .cardWithdrawn) with
          acct := { s.acct with global :=
            { s.acct.global with withdrawals := min 65535 (s.acct.global.withdrawals + 1) } } }
      ((s.pos p).inFlight = none → (s.pos p).line.accepted ≠ some .idle → answers (u.passDebt p)) ∧
      (∀ id c, (s.pos p).inFlight = none → (s.pos p).line.accepted = some .idle → (s.pos p).identity = some id →
        (s.pos p).call = some c →
        ∃ c', ((u.passDebt p).pos p).call = some c' ∧
          answers (((u.passDebt p).recorded
            (c'.written p (some id.key) s.queue.nextSequence .cardWithdrawn)).modPos p fun x =>
              ({ x with call := none, reservation := false } : Position).vacated)) ∧
      ((s.pos p).inFlight ≠ none → answers (u.modPos p fun x => { x with cardLost := true }))) ∧
    ((s.pos p).state = .clearing →
      let u := (s.modPos p gone).passDebt p
      ((s.pos p).inFlight = none → (s.pos p).forcedClear = true → answers u) ∧
      (∀ c why, (s.pos p).inFlight = none → (s.pos p).forcedClear = false → (s.pos p).identity ≠ none →
        (s.pos p).call = some c → c.endCause = some why →
        ∃ c', (u.pos p).call = some c' ∧
          answers ((u.recorded (c'.written p (s.pos p).key s.queue.nextSequence why)).modPos p fun x =>
            ({ x with call := none, reservation := false } : Position).vacated)) ∧
      ((s.pos p).inFlight ≠ none → answers (s.modPos p fun x => { (gone x) with cardLost := true }))) ∧
    ((s.pos p).state = .recovering →
      let u := (s.modPos p gone).passDebt p
      ((s.pos p).reservation = false → answers (s.modPos p fun x => (gone x).vacated)) ∧
      (∀ r, (s.pos p).reservation = true → (s.pos p).inFlight = none → (s.pos p).call = none →
        (s.pos p).recovery = some r →
        ∃ r', (u.pos p).recovery = some r' ∧
          answers ((u.recorded (r'.written p (s.pos p).key s.queue.nextSequence .cardWithdrawn)).modPos p fun x =>
            ({ x with recovery := none, reservation := false } : Position).vacated)) ∧
      ((s.pos p).reservation = true → (s.pos p).inFlight ≠ none →
        answers (s.modPos p fun x => { (gone x) with cardLost := true })))) ∧
  (∀ (s : State) (p : PosId) (id : CardId), (s.pos p).identity = some id →
    (s.pos p).call = none ∨ (s.pos p).recovery = none →
    let d := if (s.pos p).doubt = none then 0 else 1
    ((s.pos p).debt = 0 → (s.pos p).doubt = none →
      s.passDebt p = s.modPos p fun x => { x with cardLost := false }) ∧
    (0 < (s.pos p).debt ∨ (s.pos p).doubt ≠ none →
      s.passDebt p =
        (s.modPos p fun x =>
          { (x.counting fun u => { u with owedOut := u.owedOut + (x.debt - d), doubtOut := u.doubtOut + d }) with
            debt := 0, doubt := none, cardLost := false }).createEntry
          { key := id.key, face := id.face, owed := (s.pos p).debt - d, inDoubt := (s.pos p).doubt, origin := p,
            stamp := s.link.stamp })) ∧
  (∀ (s : State) (n : TearEntry),
    let noticed := fun x : Position =>
      if x.state = .ready ∧ x.key = some n.key then { x with notice := some n.key } else x
    (s.tearEntry n.key = none → s.tear.entries.length < 32 →
      s.createEntry n =
        { (s.mapPos fun _ x => noticed x) with tear := { s.tear with entries := s.tear.entries ++ [n] } }) ∧
    (∀ old, s.tearEntry n.key = some old →
      let owed := old.owed + n.owed + if old.inDoubt ≠ none ∧ n.inDoubt ≠ none then 1 else 0
      s.createEntry n =
        { (s.mapPos fun _ x => noticed x) with
          tear :=
            { s.tear with
              entries := (s.tear.entries.filter fun x => x.key ≠ n.key) ++
                [{ n with
                   owed := min 8 owed, inDoubt := if old.inDoubt = none then n.inDoubt else old.inDoubt }] }
          acct := s.acct.plusWrittenOff (owed - 8) }) ∧
    (∀ oldest rest, s.tearEntry n.key = none → s.tear.entries = oldest :: rest → 32 ≤ s.tear.entries.length →
      let d := if oldest.inDoubt = none then 0 else 1
      s.createEntry n =
        { (s.mapPos fun _ x => noticed (x.released oldest.key)) with
          tear :=
            { entries := rest ++ [n]
              lastEviction := some
                { key := oldest.key, owed := oldest.owed, inDoubt := d, stamp := s.link.stamp } }
          acct :=
            { (s.acct.plusWrittenOff (oldest.owed + d)) with
              global := { s.acct.global with evictions := min 65535 (s.acct.global.evictions + 1) } }
          link := { s.link with tearEvicted := true } }))

/-! ### Calls -/

/-- Hook ON, CLEARBACK, RELEASE, BLOCK and the ANSWER_WAIT expiry take a call to CLEARING with their cause, where its
line or its debt keeps CLEARING from finishing in the same event. -/
def Obligations.EndersTakeCallToClearing : Prop :=
  ∀ (s : State) (p : PosId), (s.pos p).state ∈ [.routed, .metering, .lastUnit, .freeCall] →
    ((s.pos p).frozen = false → Input.Completes s.depths.hook .on (s.pos p).hook →
      ((s.pos p).line.accepted ≠ some .idle ∨ 0 < (s.pos p).debt) →
      ∃ t, exec (.inputSample p (.hook .on)) s = .next t ∧
        (s.modPos p fun x => ({ x with hook := .acceptedAt .on } : Position).inClearing s.settings.clearWait
          s.link.stamp .hungUp).UpToGrants t) ∧
    ((s.pos p).frozen = false → Input.Completes s.depths.line .clearback (s.pos p).line →
      ∃ t, exec (.inputSample p (.line .clearback)) s = .next t ∧
        (s.modPos p fun x => ({ x with line := .acceptedAt .clearback } : Position).inClearing s.settings.clearWait
          s.link.stamp .farEnd).UpToGrants t) ∧
    (s.Takes (.release (posByte p)) → ((s.pos p).line.accepted ≠ some .idle ∨ 0 < (s.pos p).debt) →
      ∃ t, exec (.release (posByte p)) s = .next t ∧
        ((s.modPos p (·.inClearing s.settings.clearWait s.link.stamp .host)).answered (.release (posByte p))
          (.accepted [])).UpToGrants t) ∧
    (s.Takes (.block (posByte p)) → ((s.pos p).line.accepted ≠ some .idle ∨ 0 < (s.pos p).debt) →
      ∃ t, exec (.block (posByte p)) s = .next t ∧
        ((s.modPos p fun x => ({ x with blockPending := true } : Position).inClearing s.settings.clearWait
          s.link.stamp .blocked).answered (.block (posByte p)) (.accepted [])).UpToGrants t) ∧
    ((s.pos p).state = .routed → (s.pos p).oneShot = { kind := .answerWait, count := 0 } →
      ((s.pos p).line.accepted ≠ some .idle ∨ 0 < (s.pos p).debt) →
      ∃ t, exec (.answerWaitExpiry p) s = .next t ∧
        (s.modPos p (·.inClearing s.settings.clearWait s.link.stamp .noAnswer)).UpToGrants t)

/-- ANSWER in ROUTED: with a usable entry the tariff is copied, the first segment opened, the smallest of the initial,
remaining less debt and 7 less debt charged, and the call meters or stands in LAST_UNIT; without one it ends
TARIFF_UNDEFINED with nothing charged. -/
def Obligations.AnswerRunsProcedure : Prop :=
  ∀ (s : State) (p : PosId) (c : Call), (s.pos p).frozen = false →
    Input.Completes s.depths.line .answer (s.pos p).line → (s.pos p).state = .routed → (s.pos p).call = some c →
    let e := s.tariff.active.entry c.cls s.tariff.band
    let n := min e.initial (min ((s.pos p).remaining - (s.pos p).debt) (7 - (s.pos p).debt))
    let last : Bool := (s.pos p).remaining < (s.pos p).debt + n + e.step
    (e.defined = true → e.period ≠ 0 →
      ∃ t, exec (.inputSample p (.line .answer)) s = .next t ∧
        State.UpToGrants
          { (s.modPos p fun x =>
              { x with
                line := .acceptedAt .answer
                state := if last then .lastUnit else .metering
                lineEnable := true
                forcedClear := false
                tone := last
                refusal := none
                changed := true
                unitTimer := { count := e.period.toNat, running := true }
                oneShot := if last then { kind := .tone, count := 150 } else { x.oneShot with kind := .stopped }
                debt := x.debt + n
                call := some
                  { c with
                    answer := some s.link.stamp
                    tariff := some { period := e.period.toNat, step := e.step, follow := e.follow }
                    segments := [{ band := s.tariff.band, edition := s.tariff.edition, units := n }]
                    charged := c.charged + n } }) with
            acct := { s.acct with totals :=
              { s.acct.totals with
                charged := s.acct.totals.charged + BitVec.ofNat 32 n
                answered := s.acct.totals.answered + 1 } } } t) ∧
    (e.defined = false ∨ e.period = 0 →
      ∃ t, exec (.inputSample p (.line .answer)) s = .next t ∧
        (s.modPos p fun x =>
          ({ x with line := .acceptedAt .answer, call := some { c with answer := some s.link.stamp } } : Position).inClearing
            s.settings.clearWait s.link.stamp .tariffUndefined).UpToGrants t)

/-- The finish of CLEARING at the CLEAR_WAIT expiry: a call whose debt is settled writes its record, CALL or FREE, and the
position goes where the first test of R36 that holds takes it: BLOCKED, VACANT or on to READING, REFUSED FAULTY,
RECOVERING (waiting where the queue is full, with the entry taken where a place is free and units are left to burn),
READING, VACANT, REFUSED EMPTY or READY. A call whose debt is not settled goes on clearing with its line done. -/
def Obligations.ClearWaitExpiryEndsLinePart : Prop :=
  ∀ (s : State) (p : PosId) (c : Call) (why : EndCause), (s.pos p).state = .clearing →
    (s.pos p).oneShot = { kind := .clearWait, count := 0 } → (s.pos p).call = some c → c.endCause = some why →
    ((s.pos p).debt = 0 → (s.pos p).doubt = none → (s.pos p).cardLost = false → (s.pos p).inFlight = none →
      let u := (s.recorded (c.written p (s.pos p).key s.queue.nextSequence why)).modPos p fun x =>
        { x with call := none, reservation := false }
      let goes := fun u : State => ∃ t, exec (.clearWaitExpiry p) s = .next t ∧ u.UpToGrants t
      let bp := (s.pos p).blockPending
      let left : Prop := (s.pos p).cardLeft = true ∨ (s.pos p).card.accepted ≠ some .present
      let held := fun id : CardId => bp = false ∧ ¬left ∧ (s.pos p).faulty = false ∧ (s.pos p).identity = some id
      let bare : Prop := bp = false ∧ ¬left ∧ (s.pos p).faulty = false ∧ (s.pos p).identity = none
      (bp = true → goes (u.modPos p fun x => { (x.cardless.rested .blocked) with blockPending := false })) ∧
      (bp = false → left → goes (u.modPos p (·.vacated))) ∧
      (bp = false → ¬left → (s.pos p).faulty = true → goes (u.modPos p (·.refusedWith .faulty))) ∧
      (∀ id t0, held id → s.tearEntry id.key = some t0 → (s.pos p).reservation = true →
        (s.queue.records.length + s.reservations = 64 → goes (u.modPos p (·.rested .recovering))) ∧
        (s.queue.records.length + s.reservations < 64 → 0 < ((s.pos p).owing t0 s.link.stamp).debt →
          goes ((u.modPos p fun x => { (x.rested .recovering) with reservation := true }).handing p t0))) ∧
      (bare → (s.pos p).profile = .card → goes (u.modPos p fun x => { (x.rested .reading) with retry := 0 })) ∧
      (bare → (s.pos p).profile ≠ .card → goes (u.modPos p fun x => x.cardless.rested .vacant)) ∧
      (∀ id, held id → s.tearEntry id.key = none → (s.pos p).remaining = 0 →
        goes (u.modPos p (·.refusedWith .empty))) ∧
      (∀ id, held id → s.tearEntry id.key = none → 0 < (s.pos p).remaining → goes (u.modPos p (·.rested .ready)))) ∧
    (0 < (s.pos p).debt →
      ∃ t, exec (.clearWaitExpiry p) s = .next t ∧
        (s.modPos p fun x => { x with forcedClear := false, oneShot := { kind := .stopped, count := 0 } }).UpToGrants t)

/-! ### Metering -/

/-- A metering tick lowers every running timer by 1 and changes nothing else; the TONE expiry turns the tone off and
changes nothing else. A timer that stands at 0 stays there (the model's reading, notes/assumptions/7.md). -/
def Obligations.TickAndToneExpiry : Prop :=
  (∀ s : State, ∃ t, exec .meteringTick s = .next t ∧ t = { s with positions := t.positions } ∧
     ∀ p, t.pos p =
       { s.pos p with
         unitTimer :=
           if (s.pos p).unitTimer.running = true then
             { (s.pos p).unitTimer with count := (s.pos p).unitTimer.count - 1 }
           else (s.pos p).unitTimer
         oneShot :=
           if (s.pos p).oneShot.kind = .stopped then (s.pos p).oneShot
           else { (s.pos p).oneShot with count := (s.pos p).oneShot.count - 1 } }) ∧
  (∀ (s : State) (p : PosId), (s.pos p).oneShot = { kind := .tone, count := 0 } →
     exec (.toneExpiry p) s =
       .next (s.modPos p fun x => { x with tone := false, oneShot := { kind := .stopped, count := 0 } }))

/-- A unit expiry in METERING whose full step the ceiling admits charges the step, reloads the timer and, where
remaining less debt is then below the step, takes the call to LAST_UNIT (no band change pending). -/
def Obligations.UnitExpiryChargesStep : Prop :=
  ∀ (s : State) (p : PosId) (c : Call) (k : InUseTariff) (gs : List Segment) (g : Segment),
    (s.pos p).state = .metering → (s.pos p).unitTimer = { count := 0, running := true } → (s.pos p).call = some c →
    c.tariff = some k → c.bandPending = false → c.segments = gs ++ [g] → k.step ≤ 7 - (s.pos p).debt →
    let last : Bool := (s.pos p).remaining < (s.pos p).debt + k.step + k.step
    ∃ t, exec (.unitExpiry p) s = .next t ∧
      State.UpToGrants
        { (s.modPos p fun x =>
            let y : Position :=
              { x with
                debt := x.debt + k.step
                call := some (c.charging k.step gs g)
                unitTimer := { count := k.period, running := true } }
            if last then
              { y with
                state := .lastUnit
                lineEnable := true
                forcedClear := false
                tone := true
                refusal := none
                changed := true
                oneShot := { kind := .tone, count := 150 } }
            else y) with
          acct := s.acct.plusCharged k.step } t

/-- A unit expiry in METERING with a band change pending charges at the old step and then recopies: the mark is
cleared; a usable entry gives the new tariff and, under another band or edition, a new segment or the merge into the
fourth; the timer is reloaded and the last-unit test made with the tariff as it then stands. -/
def Obligations.UnitExpiryRecopiesTariff : Prop :=
  ∀ (s : State) (p : PosId) (c : Call) (k : InUseTariff) (gs : List Segment) (g : Segment),
    (s.pos p).state = .metering → (s.pos p).unitTimer = { count := 0, running := true } → (s.pos p).call = some c →
    c.tariff = some k → c.bandPending = true → c.segments = gs ++ [g] → k.step ≤ 7 - (s.pos p).debt →
    let e := s.tariff.active.entry c.cls s.tariff.band
    let usable : Bool := e.defined && e.period ≠ 0
    let moved : Bool := usable && !(g.band = s.tariff.band && g.edition = s.tariff.edition)
    let k2 : InUseTariff :=
      if usable then { period := e.period.toNat, step := e.step, follow := e.follow } else k
    let full : Bool := 4 ≤ gs.length + 1
    ∃ t, exec (.unitExpiry p) s = .next t ∧
      (t.pos p).call = some
        { (c.charging k.step gs g) with
          tariff := some k2
          bandPending := false
          segments := gs ++ [{ g with units := g.units + k.step }] ++
            (if moved && !full then [{ band := s.tariff.band, edition := s.tariff.edition, units := 0 }] else [])
          merged := c.merged || (moved && full) } ∧
      (t.pos p).debt = (s.pos p).debt + k.step ∧
      (t.pos p).unitTimer = { count := k2.period, running := true } ∧
      (t.pos p).state = (if (s.pos p).remaining < (s.pos p).debt + k.step + k2.step then .lastUnit else .metering) ∧
      t.tariff = s.tariff ∧ t.acct.totals = (s.acct.plusCharged k.step).totals ∧ t.link = s.link ∧
      t.queue = s.queue ∧ t.tear = s.tear ∧ ∀ q, q ≠ p → (s.pos q).SameButOp (t.pos q)

/-- A unit expiry in METERING whose step the ceiling cuts charges 7 less the debt and ends the call with DEBT_LIMIT, the
units cut off counted as forgone; the unit expiry in LAST_UNIT charges the smallest of the step, remaining less debt and
7 less debt, and ends the call EXHAUSTED. -/
def Obligations.UnitExpiriesThatEndCalls : Prop :=
  (∀ (s : State) (p : PosId) (c : Call) (k : InUseTariff) (gs : List Segment) (g : Segment),
     (s.pos p).state = .metering → (s.pos p).unitTimer = { count := 0, running := true } → (s.pos p).call = some c →
     c.tariff = some k → c.segments = gs ++ [g] → (s.pos p).debt ≤ 7 → 7 - (s.pos p).debt < k.step →
     let n := 7 - (s.pos p).debt
     ∃ t, exec (.unitExpiry p) s = .next t ∧
       State.UpToGrants
         { (s.modPos p fun x =>
             ({ x with debt := 7, call := some (c.charging n gs g) } : Position).inClearing s.settings.clearWait
               s.link.stamp .debtLimit) with
           acct :=
             { (s.acct.plusCharged n) with
               global :=
                 { s.acct.global with
                   debtLimits := min 65535 (s.acct.global.debtLimits + 1)
                   forgone := min 65535 (s.acct.global.forgone + (k.step - n)) } } } t) ∧
  (∀ (s : State) (p : PosId) (c : Call) (k : InUseTariff) (gs : List Segment) (g : Segment),
     (s.pos p).state = .lastUnit → (s.pos p).unitTimer = { count := 0, running := true } → (s.pos p).call = some c →
     c.tariff = some k → c.segments = gs ++ [g] → (s.pos p).line.accepted ≠ some .idle →
     let n := min k.step (min ((s.pos p).remaining - (s.pos p).debt) (7 - (s.pos p).debt))
     ∃ t, exec (.unitExpiry p) s = .next t ∧
       State.UpToGrants
         { (s.modPos p fun x =>
             ({ x with debt := x.debt + n, call := some (c.charging n gs g) } : Position).inClearing
               s.settings.clearWait s.link.stamp .exhausted) with
           acct := s.acct.plusCharged n } t)

/-- The stamp advances by 1 at each whole second, modulo 2^32, and a CLOCK sets it. A whole second is also taken from
the snapshot interval timer, whose expiry stands to be taken from the second that brings it to 0 (the model's choice of
command, notes/assumptions/8.md). -/
def Obligations.StampAdvancesAndIsSet : Prop :=
  ∀ s : State,
    exec .stampAdvance s =
      .next { s with
        link := { s.link with stamp := s.link.stamp + 1 }
        acct :=
          { s.acct with
            intervalLeft := s.acct.intervalLeft - 1
            intervalDue := s.acct.intervalDue || s.acct.intervalLeft = 1 } } ∧
    ∀ v, s.Takes (.clock v) →
      exec (.clock v) s = .next ({ s with link := { s.link with stamp := v } }.answered (.clock v) (.accepted []))

/-! ### Accounting -/

/-- A snapshot event, at a SNAPSHOT or at the expiry of the interval timer, copies the forty period counters with their
overflow marks and the stamp, clears them, restarts the timer and raises SNAPSHOT_READY. A SNAPSHOT leaves an expiry that
has come to be taken after it, so that the two together are two snapshot events in either order. -/
def Obligations.SnapshotCopiesAndClears : Prop :=
  ∀ s : State,
    let counts : List Nat :=
      (s.acct.engines.toList.flatMap fun c =>
        [c.grants, c.done, c.notTaken, c.timeout, c.cardGone, c.busFault, c.abandoned]) ++
      [s.acct.global.withdrawals, s.acct.global.evictions, s.acct.global.debtLimits, s.acct.global.forgone,
        s.acct.global.discarded]
    let taken : Bool → State := fun due =>
      { s with
        acct :=
          { s.acct with
            snapshot := some
              { counts := counts.map fun n => { count := n, overflow := n = 65535 }
                stamp := s.link.stamp }
            engines := Vector.replicate 5 .zero
            global := .zero
            intervalLeft := s.acct.interval
            intervalDue := due }
        link := { s.link with snapshotReady := true } }
    (s.Takes .snapshot →
      exec .snapshot s =
        .next ((taken s.acct.intervalDue).answered .snapshot (.accepted (bytes32 s.link.stamp)))) ∧
    (s.acct.intervalDue = true → exec .snapshotIntervalExpiry s = .next (taken false))

/-! ### Lanes and the bus -/

/-- The end of a bus test: PASS takes the lane into IN_SERVICE and the relieved positions home, FAIL takes it into
FAULTED and relieves every position allocated HOME to it where the auto-relief mark of its lane engine is on. The
command ends the test whatever time is left (notes/assumptions/9.md). -/
def Obligations.BusTestEndSetsLane : Prop :=
  ∀ (s : State) (e : EngineId), (s.eng e).lane = .testing →
    (∃ t, exec (.busTestEnd e true) s = .next t ∧
      ((s.modEng e fun g => { g with lane := .inService, testTimeLeft := 0 }).mapPos fun p x =>
        if homeEngine p = e ∧ x.relieved = true then
          if x.inFlight = none then { x with relieved := false, allocation := .home, changed := true }
          else { x with relieved := false, pendingAlloc := some .home }
        else x).UpToGrants t) ∧
    (∃ t, exec (.busTestEnd e false) s = .next t ∧
      ((s.modEng e fun g => { g with lane := .faulted, testTimeLeft := 0 }).mapPos fun p x =>
        if e ≠ reliefEngine ∧ (s.eng e).autoRelief = true ∧ homeEngine p = e ∧ x.allocation = .home then
          { x with allocation := .relief, relieved := true, changed := true }
        else x).UpToGrants t)

/-- A select answer ends the operation or passes it to its next step, and changes nothing else. -/
def Obligations.SelectAnswerSteps : Prop :=
  ∀ (s : State) (e : EngineId) (o : EngineOp), (s.eng e).op = some o → (s.eng e).laneReset = false →
    (o.step = .select →
      exec (.selectAnswer e .noAnswer) s = .next (s.opTo e (.ended .busFault)) ∧
      exec (.selectAnswer e .absent) s =
        .next (s.opTo e (.ended (if o.op = .burn then .cardGone else .noCard))) ∧
      exec (.selectAnswer e .present) s = .next (s.opTo e .read)) ∧
    (o.step = .timeoutSelect →
      exec (.selectAnswer e .noAnswer) s = .next (s.opTo e (.ended .busFault)) ∧
      exec (.selectAnswer e .absent) s = .next (s.opTo e (.ended .cardGone)) ∧
      exec (.selectAnswer e .present) s = .next (s.opTo e (.ended .timeout))) ∧
    (o.step = .backSelect →
      exec (.selectAnswer e .noAnswer) s = .next (s.opTo e (.ended .busFault)) ∧
      exec (.selectAnswer e .absent) s = .next (s.opTo e (.ended .cardGone)) ∧
      exec (.selectAnswer e .present) s = .next (s.opTo e .backRead))

/-- A header read takes an operation to the step or the outcome the tables of R86 to R88 give. The check passes when the
twelve bytes add up to 255 modulo 256. -/
def Obligations.HeaderReadSteps : Prop :=
  ∀ (s : State) (e : EngineId) (o : EngineOp) (b : Vector Byte 12), (s.eng e).op = some o →
    (s.eng e).laneReset = false →
    let ok : Prop := (b.toList.map BitVec.toNat).sum % 256 = 255
    let key : CardKey := { series := b[1] ++ b[2], serial := b[3] ++ b[4] ++ b[5] ++ b[6] }
    let counter := (b[9] ++ b[10] : BitVec 16).toNat
    let h : Header := { kind := b[0], key := key, face := (b[7] ++ b[8] : BitVec 16).toNat, counter := counter }
    let back : OpOutcome :=
      if o.key ≠ some key then .cardGone
      else if counter + 1 = o.before then .done counter
      else if counter = o.before then .notTaken counter
      else .anomaly counter
    let goes := fun st => exec (.headerReadDone e b) s = .next (s.opTo e st)
    (o.step = .read → o.op = .identify → ¬ok → goes (.ended .checkFail)) ∧
    (o.step = .read → o.op = .identify → ok → goes (.reread b)) ∧
    (∀ first, o.step = .reread first → ¬ok ∨ b ≠ first → goes (.ended .checkFail)) ∧
    (∀ first, o.step = .reread first → ok → b = first → goes (.ended (.read h))) ∧
    (o.step = .read → o.op = .verify → ¬ok → goes (.ended .checkFail)) ∧
    (o.step = .read → o.op = .verify → ok → goes (.ended (.read h))) ∧
    (o.step = .read → o.op = .burn → ¬ok → goes (.ended .timeout)) ∧
    (o.step = .read → o.op = .burn → ok → o.key ≠ some key → goes (.ended .cardGone)) ∧
    (o.step = .read → o.op = .burn → ok → o.key = some key → goes .ready) ∧
    (o.step = .backRead → ¬ok → goes .backReread) ∧
    (o.step = .backRead → ok → goes (.ended back)) ∧
    (o.step = .backReread → ¬ok → goes (.ended .timeout)) ∧
    (o.step = .backReread → ok → goes (.ended back))

/-- After the strobe, ready brings the read-back and the burn timeout one more select; a stalled byte during a header
read starts the lane reset. That the operation runs on to a completion of its own is the model's choice
(notes/assumptions/5.md). -/
def Obligations.ReadyTimeoutAndStall : Prop :=
  ∀ (s : State) (e : EngineId) (o : EngineOp), (s.eng e).op = some o → (s.eng e).laneReset = false →
    (o.step = .ready →
      exec (.readySignal e) s = .next (s.opTo e .backSelect) ∧
      exec (.burnTimeout e) s = .next (s.opTo e .timeoutSelect)) ∧
    ((o.step = .read ∨ (∃ b, o.step = .reread b) ∨ o.step = .backRead ∨ o.step = .backReread) →
      exec (.busStall e) s = .next (s.modEng e fun g => { g with laneReset := true }))

/-- A completion leaves the lane as the tables of R91 and R92 say, the engine without lane reset or disable pending, and
counts its outcome against the engine. The end of the bus part and the completion are two commands
(notes/assumptions/5.md). -/
def Obligations.LaneStateAfterCompletion : Prop :=
  ∀ (s : State) (e : EngineId) (op : EngineOp) (o : OpOutcome), (s.eng e).Due op o →
    ∃ t, exec (completionOf op.op e) s = .next t ∧ (t.eng e).laneReset = false ∧ (t.eng e).disablePending = false ∧
      ((s.eng e).disablePending = true → (t.eng e).lane = .disabled) ∧
      ((s.eng e).disablePending = false →
        (o = .busFault → (s.eng e).lane = .inService → (t.eng e).lane = .suspect) ∧
        (o = .busFault → (s.eng e).lane = .suspect → (t.eng e).lane = .faulted) ∧
        (o = .abandoned → (t.eng e).lane = (s.eng e).lane) ∧
        (o ≠ .busFault → (s.eng e).lane = .inService → (t.eng e).lane = .inService) ∧
        (o ≠ .busFault → o ≠ .abandoned → (s.eng e).lane = .suspect → (t.eng e).lane = .inService)) ∧
      EngineCounts.SameButGrants
        (let c := s.acct.engines[e.val]
         match o with
         | .done _ => { c with done := min 65535 (c.done + 1) }
         | .notTaken _ => { c with notTaken := min 65535 (c.notTaken + 1) }
         | .timeout => { c with timeout := min 65535 (c.timeout + 1) }
         | .cardGone => { c with cardGone := min 65535 (c.cardGone + 1) }
         | .busFault => { c with busFault := min 65535 (c.busFault + 1) }
         | .abandoned => { c with abandoned := min 65535 (c.abandoned + 1) }
         | .read _ | .checkFail | .noCard | .anomaly _ => c)
        t.acct.engines[e.val]

/-! ### Outcomes at the position -/

/-- An IDENTIFY that ends READ at a position in READING is taken by the first row of R21 that applies. At the row of a
listed card the position waits where the record queue is full, and otherwise claims its reservation and takes the entry
(given here where units are left to burn). A failed IDENTIFY raises the retry count, and the third refuses the card as
UNREADABLE. BUS_FAULT and ABANDONED leave the position as it was, its IDENTIFY derived again. -/
def Obligations.IdentifyOutcomeRows : Prop :=
  (∀ (s : State) (e : EngineId) (p : PosId) (b : Nat) (k : Option CardKey) (o : OpOutcome),
    s.DueAt e p .identify b k o → (s.pos p).state = .reading → (s.pos p).blockPending = false →
    (s.pos p).recovery = none →
    let idle := (s.modEng e fun g => { g with op := none }).modPos p fun x => { x with inFlight := none }
    let answers := fun u : State => ∃ t, exec (.identifyCompletion e) s = .next t ∧ u.UpToGrants t
    let becomes := fun f : Position → Position => answers (idle.modPos p f)
    (∀ h : Header, o = .read h →
      let id : CardId := { key := h.key, face := h.face }
      (h.kind ≠ 0x5A → becomes fun x => { x with retry := 0 }.refusedWith .foreign) ∧
      (h.kind = 0x5A → h.face = 0 ∨ 1000 < h.face → becomes fun x => { x with retry := 0 }.refusedWith .invalid) ∧
      (h.kind = 0x5A → 1 ≤ h.face → h.face ≤ 1000 →
        (∀ t0, s.tearEntry h.key = some t0 →
          let found := fun x : Position =>
            { (x.rested .recovering) with retry := 0, identity := some id, remaining := min h.counter h.face }
          (s.queue.records.length + s.reservations = 64 → becomes found) ∧
          (s.queue.records.length + s.reservations < 64 → (s.pos p).reservation = false →
            0 < ((found (s.pos p)).owing t0 s.link.stamp).debt →
            answers ((idle.modPos p fun x => { (found x) with reservation := true }).handing p t0))) ∧
        (s.tearEntry h.key = none → h.face < h.counter →
          becomes fun x => { x with retry := 0 }.refusedWith .invalid) ∧
        (s.tearEntry h.key = none → h.counter = 0 →
          becomes fun x => { x with retry := 0, identity := some id, remaining := 0 }.refusedWith .empty) ∧
        (s.tearEntry h.key = none → 1 ≤ h.counter → h.counter ≤ h.face →
          becomes fun x => { (x.rested .ready) with retry := 0, identity := some id, remaining := h.counter }))) ∧
    (o = .checkFail ∨ o = .noCard → (s.pos p).card.accepted = some .present →
      ((s.pos p).retry < 2 → becomes fun x => { x with retry := x.retry + 1 }) ∧
      ((s.pos p).retry = 2 → becomes fun x => { x with retry := 0 }.refusedWith .unreadable))) ∧
  (∀ (s : State) (e : EngineId) (op : EngineOp) (o : OpOutcome), (s.eng e).Due op o → o = .busFault ∨ o = .abandoned →
    op.op = .identify → (s.eng e).lane = .inService →
    (s.pos op.position).inFlight = some { engine := e, op := .identify, discard := false } →
    (s.pos op.position).pendingAlloc = none → (s.pos op.position).cardLost = false →
    (s.pos op.position).state = .reading → (s.pos op.position).identity = none →
    ∃ t, exec (.identifyCompletion e) s = .next t ∧ s.UpToEngines t ∧
      ((t.pos op.position).pendingOp = some .identify ∨
        ((t.pos op.position).inFlight.map (·.op)) = some .identify))

/-- A VERIFY READ of the held card in METERING settles the doubt. One less than the counter before counts the unit as
burned, and the same counter does not. A counter lower still counts one unit and is taken as the remaining, with the
anomaly mark set; a debt above it is a CARD_FAULT, and otherwise the last-unit test is made. A higher counter is a
CARD_FAULT that writes the debt off and ends the call. Another card is taken as a withdrawal of the held one, which passes
the debt and the doubt. -/
def Obligations.VerifySettlesDoubt : Prop :=
  ∀ (s : State) (e : EngineId) (p : PosId) (b : Nat) (k : Option CardKey) (h : Header) (id : CardId) (c : Call)
    (before : Nat),
    s.DueAt e p .verify b k (.read h) → (s.pos p).state = .metering → (s.pos p).identity = some id →
    (s.pos p).doubt = some before → (s.pos p).call = some c → (s.pos p).line.accepted ≠ some .idle →
    let idle := (s.modEng e fun g => { g with op := none }).modPos p fun x => { x with inFlight := none }
    let answers := fun u : State => ∃ t, exec (.verifyCompletion e) s = .next t ∧ u.UpToGrants t
    let becomes := fun (a : Accounting) (f : Position → Position) =>
      answers { (idle.modPos p fun x => f { x with doubt := none }) with acct := a }
    let faulted := fun (u : Units) (x : Position) =>
      ({ x with
          debt := 0, retry := 0, faulty := true
          call := some { c with units := { u with writtenOff := u.writtenOff + x.debt, anomaly := true } } } :
        Position).inClearing s.settings.clearWait s.link.stamp .cardFault
    let burned : Units := { c.units with burned := c.units.burned + 1 }
    (h.key = id.key → h.counter + 1 = before →
      becomes (s.acct.plusBurned 1) fun x =>
        { x with debt := x.debt - 1, remaining := x.remaining - 1, retry := 0, call := some { c with units := burned } }) ∧
    (h.key = id.key → h.counter = before → becomes s.acct fun x => x) ∧
    (h.key = id.key → h.counter + 1 < before →
      let lower := fun x : Position =>
        { x with
          debt := x.debt - 1, remaining := h.counter, retry := 0
          call := some { c with units := { burned with anomaly := true } } }
      (h.counter < (s.pos p).debt - 1 →
        becomes ((s.acct.plusBurned 1).plusWrittenOff ((s.pos p).debt - 1)) fun x => faulted burned (lower x)) ∧
      (∀ k, c.tariff = some k → (s.pos p).debt - 1 ≤ h.counter → h.counter < (s.pos p).debt - 1 + k.step →
        becomes (s.acct.plusBurned 1) fun x =>
          { (lower x) with
            state := .lastUnit
            lineEnable := true
            forcedClear := false
            tone := true
            refusal := none
            changed := true
            unitTimer := { x.unitTimer with running := true }
            oneShot := { kind := .tone, count := 150 } }) ∧
      (∀ k, c.tariff = some k → (s.pos p).debt - 1 + k.step ≤ h.counter → becomes (s.acct.plusBurned 1) lower)) ∧
    (h.key = id.key → before < h.counter → becomes (s.acct.plusWrittenOff (s.pos p).debt) (faulted c.units)) ∧
    (h.key ≠ id.key →
      answers (State.passDebt
        { (idle.modPos p fun x => ({ x with cardLeft := true } : Position).inClearing s.settings.clearWait s.link.stamp
            .cardWithdrawn) with
          acct := { s.acct with global :=
            { s.acct.global with withdrawals := min 65535 (s.acct.global.withdrawals + 1) } } } p))

/-- A BURN that ends DONE in METERING or LAST_UNIT lowers debt and remaining by 1, counts one unit burned in the call
and in the live total, and sets the retry count to 0. Where debt is left on a card still there, the allocation still names
the engine, the burst is below the grant length and no other candidate of the engine is in class A, the engine keeps the
position for a further BURN, its pointer as it stands and the burst one longer; otherwise no burst goes on. -/
def Obligations.BurnDoneTakesOneUnit : Prop :=
  ∀ (s : State) (e : EngineId) (p : PosId) (b n : Nat) (k : Option CardKey) (c : Call),
    s.DueAt e p .burn b k (.done n) → ((s.pos p).state = .metering ∨ (s.pos p).state = .lastUnit) →
    (s.pos p).call = some c →
    ∃ t, exec (.burnCompletion e) s = .next t ∧ t.acct.totals = (s.acct.plusBurned 1).totals ∧
      Position.SameButOp
        { s.pos p with
          inFlight := none, debt := (s.pos p).debt - 1, remaining := (s.pos p).remaining - 1, retry := 0
          call := some { c with units := { c.units with burned := c.units.burned + 1 } } } (t.pos p) ∧
      (∀ q, q ≠ p → (s.pos q).SameButOp (t.pos q)) ∧ t.tear = s.tear ∧ t.queue = s.queue ∧ t.link = s.link ∧
      t.tariff = s.tariff ∧ t.settings = s.settings ∧ t.depths = s.depths ∧ t.acct.global = s.acct.global ∧
      (let kept : Prop :=
        1 < (s.pos p).debt ∧ (s.pos p).doubt = none ∧ (s.pos p).card.accepted = some .present ∧
          (s.pos p).faulty = false ∧ engineOf p (s.pos p).allocation = e ∧ (s.eng e).burst < (s.eng e).grantLength ∧
          ∀ q ∈ s.candidates e, q ≠ p → (s.pos q).state ≠ .clearing ∧
            ((s.pos q).pendingOp = some .identify ∨ (s.pos q).debt < s.settings.urgency)
       (kept →
         t.eng e =
           { s.eng e with
             op := some
               { position := p, op := .burn, step := .select, before := (s.pos p).remaining - 1, key := (s.pos p).key }
             burst := (s.eng e).burst + 1 } ∧
         (t.pos p).inFlight = some { engine := e, op := .burn, discard := false } ∧ (t.pos p).pendingOp = none ∧
         t.acct.engines[e.val] =
           { s.acct.engines[e.val] with
             done := min 65535 (s.acct.engines[e.val].done + 1)
             grants := min 65535 (s.acct.engines[e.val].grants + 1) }) ∧
       (¬kept →
         ((t.eng e).op = none ∧ (t.eng e).burst = 0 ∧ (t.eng e).pointer = (s.eng e).pointer) ∨
         (∃ q o, (t.eng e).op = some o ∧ o.position = q ∧ o.step = .select ∧ (t.eng e).burst = 1 ∧
           (t.eng e).pointer = (readerIndex e q + 1) % busSize e ∧
           (t.pos q).inFlight = some { engine := e, op := o.op, discard := false })))

/-- A BURN that ends TIMEOUT, CARD_GONE or BUS_FAULT in METERING leaves the unit in doubt with the remaining held, TIMEOUT
and NOT_TAKEN raise the retry count, and the third failure is a CARD_FAULT that writes the whole debt off. ANOMALY sets
the anomaly mark: a counter lower by more than one is counted as one unit burned and taken as the remaining, and a higher
one is a CARD_FAULT. At a position in CLEARING or RECOVERING whose card has left while a BURN or VERIFY was on the bus, the
outcome is taken first and what is then owed passes to the tear list, unless a CARD_FAULT has written it off; a finished
clearing and every recovery write their record and go to VACANT, or on to READING, or to BLOCKED. -/
def Obligations.BurnWithoutUnitAtPosition : Prop :=
  (∀ (s : State) (e : EngineId) (p : PosId) (b n : Nat) (k : Option CardKey) (c : Call) (o : OpOutcome),
    s.DueAt e p .burn b k o → (s.pos p).state = .metering → (s.pos p).call = some c →
    (s.pos p).line.accepted ≠ some .idle →
    let becomes := fun (f : Position → Position) =>
      ∃ t, exec (.burnCompletion e) s = .next t ∧ Position.SameButOp (f { s.pos p with inFlight := none }) (t.pos p) ∧
        (∀ q, q ≠ p → (s.pos q).SameButOp (t.pos q)) ∧ t.tear = s.tear ∧ t.queue = s.queue
    (o = .cardGone ∨ o = .busFault → becomes fun x => { x with doubt := some x.remaining }) ∧
    (∀ m k, o = .anomaly m → m + 1 < b → c.tariff = some k → (s.pos p).debt - 1 + k.step ≤ m →
      becomes fun x =>
        { x with
          debt := x.debt - 1, remaining := m, retry := 0
          call := some { c with units := { c.units with burned := c.units.burned + 1, anomaly := true } } }) ∧
    (∀ m, o = .anomaly m → b < m →
      becomes fun x =>
        ({ x with
            debt := 0, doubt := none, faulty := true, retry := 0
            call := some
              { c with units :=
                { c.units with writtenOff := c.units.writtenOff + x.debt, anomaly := true } } } : Position).inClearing
          s.settings.clearWait s.link.stamp .cardFault) ∧
    (o = .timeout → (s.pos p).retry < 2 → becomes fun x => { x with doubt := some x.remaining, retry := x.retry + 1 }) ∧
    (o = .notTaken n → (s.pos p).retry < 2 → becomes fun x => { x with retry := x.retry + 1 }) ∧
    (o = .timeout ∨ o = .notTaken n → (s.pos p).retry = 2 →
      becomes fun x =>
        ({ x with
            debt := 0, doubt := none, faulty := true, retry := 0
            call := some { c with units := { c.units with writtenOff := c.units.writtenOff + x.debt } } } :
          Position).inClearing s.settings.clearWait s.link.stamp .cardFault)) ∧
  (∀ (s : State) (e : EngineId) (p : PosId) (op : EngineOp) (o : OpOutcome) (id : CardId),
    (s.eng e).Due op o → op.position = p → (s.eng e).lane = .inService →
    (s.pos p).inFlight = some { engine := e, op := op.op, discard := false } → (s.pos p).pendingAlloc = none →
    (s.pos p).cardLost = true → (s.pos p).cardLeft = true → (s.pos p).identity = some id →
    (s.pos p).call = none ∨ (s.pos p).recovery = none →
    let leaves := fun (u : State) (why : EndCause) => ∃ t, exec (completionOf op.op e) s = .next t ∧
      ((s.pos p).state = .clearing → (s.pos p).forcedClear = true → u.UpToEngines t) ∧
      (∀ c w, (s.pos p).state = .clearing → (s.pos p).forcedClear = false → (s.pos p).call = some c →
        c.endCause = some w →
        ∃ c', (u.pos p).call = some c' ∧
          ((u.recorded (c'.written p (some id.key) s.queue.nextSequence w)).modPos p fun x =>
            ({ x with call := none, reservation := false } : Position).vacated).UpToEngines t) ∧
      (∀ r, (s.pos p).state = .recovering → (s.pos p).recovery = some r →
        ∃ r', (u.pos p).recovery = some r' ∧
          ((u.recorded (r'.written p (some id.key) s.queue.nextSequence why)).modPos p fun x =>
            ({ x with recovery := none, reservation := false } : Position).vacated).UpToEngines t)
    let passes := fun (n : Nat) (f : Position → Position) =>
      leaves ((({ s with acct := s.acct.plusBurned n } : State).modPos p fun x => f { x with inFlight := none }).passDebt
        p) .cardWithdrawn
    let burned := fun (x : Position) (left : Nat) =>
      { (x.counting fun u => { u with burned := u.burned + 1 }) with
        debt := x.debt - 1, remaining := left, retry := 0 }
    let anomalous := fun x : Position => x.counting fun u => { u with anomaly := true }
    let faults := fun (n : Nat) (f : Position → Position) =>
      leaves (({ s with acct := (s.acct.plusBurned n).plusWrittenOff ((s.pos p).debt - n) } : State).modPos p fun x =>
        { ((f x).counting fun u => { u with writtenOff := u.writtenOff + (x.debt - n) }) with
          inFlight := none, debt := 0, doubt := none, faulty := true, retry := 0, cardLost := false }) .cardFault
    (op.op = .burn →
      (∀ n, o = .done n → passes 1 fun x => burned x (x.remaining - 1)) ∧
      (∀ n, o = .notTaken n → (s.pos p).retry < 2 → passes 0 fun x => { x with retry := x.retry + 1 }) ∧
      (o = .timeout → (s.pos p).retry < 2 →
        passes 0 fun x => { x with doubt := some x.remaining, retry := x.retry + 1 }) ∧
      (o = .cardGone ∨ o = .busFault ∨ o = .abandoned → passes 0 fun x => { x with doubt := some x.remaining }) ∧
      (∀ m, o = .anomaly m → m + 1 < op.before → (s.pos p).debt - 1 ≤ m →
        passes 1 fun x => anomalous (burned x m)) ∧
      (∀ m, o = .anomaly m → m + 1 < op.before → m < (s.pos p).debt - 1 →
        faults 1 fun x => anomalous (burned x m)) ∧
      (∀ m, o = .anomaly m → op.before < m → faults 0 anomalous) ∧
      (∀ n, o = .notTaken n → (s.pos p).retry = 2 → faults 0 fun x => x) ∧
      (o = .timeout → (s.pos p).retry = 2 → faults 0 fun x => x)) ∧
    (op.op = .verify →
      (o = .busFault ∨ o = .abandoned → passes 0 fun x => x) ∧
      (o = .checkFail ∨ o = .noCard → (s.pos p).card.accepted ≠ some .present → passes 0 fun x => x) ∧
      (∀ h before, o = .read h → (s.pos p).doubt = some before →
        (h.key ≠ id.key → passes 0 fun x => x) ∧
        (h.key = id.key → h.counter + 1 = before → passes 1 fun x => { (burned x (x.remaining - 1)) with doubt := none }) ∧
        (h.key = id.key → h.counter = before → passes 0 fun x => { x with doubt := none }))))

/-- A listed-card notice taken in READY, with the entry still listed and a place in the record queue, starts the
recovery: the entry leaves the list, its doubt is resolved against remaining, the debt is set, and positions waiting for
the key leave RECOVERING; a recovery with no debt set ends in the same event with its record. Taken in any other state, or
with the entry gone, the notice has no effect. With the queue full the position waits in RECOVERING. The notice is held at
the position (notes/assumptions/11.md). -/
def Obligations.ListedCardNoticeStartsRecovery : Prop :=
  ∀ (s : State) (p : PosId) (k : CardKey), (s.pos p).notice = some k →
    ((s.pos p).state ≠ .ready ∨ s.tearEntry k = none →
      exec (.listedCardNotice p) s = .next (s.modPos p fun x => { x with notice := none })) ∧
    ((s.pos p).state = .ready → (s.pos p).key = some k → s.tearEntry k ≠ none →
      s.queue.records.length + s.reservations = 64 → (s.pos p).recovery = none →
      ∃ t, exec (.listedCardNotice p) s = .next t ∧
        (s.modPos p fun x => { (x.rested .recovering) with notice := none }).UpToGrants t) ∧
    (∀ t0 : TearEntry, (s.pos p).state = .ready → (s.pos p).key = some k → s.tearEntry k = some t0 →
      s.queue.records.length + s.reservations < 64 → (s.pos p).reservation = false →
      let u := (s.modPos p fun x => { (x.rested .recovering) with notice := none, reservation := true }).handing p t0
      (0 < (u.pos p).debt → ∃ t, exec (.listedCardNotice p) s = .next t ∧ u.UpToGrants t) ∧
      ((u.pos p).debt = 0 → (s.pos p).card.accepted = some .present → (s.pos p).cardLost = false →
        (s.pos p).inFlight = none →
        ∃ r t, (u.pos p).recovery = some r ∧ exec (.listedCardNotice p) s = .next t ∧
          ((u.recorded (r.written p (some k) s.queue.nextSequence
              (if (s.pos p).remaining = 0 then .empty else .complete))).modPos p fun x =>
            ({ x with recovery := none, reservation := false } : Position).cleared).UpToGrants t))

/-! ### The station link -/

/-- A discarded frame raises LINK_ERROR, counts among the frames discarded and leaves the receiver HUNTING; so does a
request that comes while the answer to another is pending. That FRAME_DISCARD and FRAME_GAP_TIMEOUT act in every state of
the receiver, HUNTING included, is the model's choice (notes/assumptions/2.md). A type the catalogue does not hold is
answered UNKNOWN_REQUEST, a body of another length than its type has BAD_LENGTH, and nothing else changes. A request
command stands for its whole frame (notes/assumptions/1.md), and a body of another length has no row of its own
(notes/assumptions/3.md). -/
def Obligations.DiscardsAndUnknownRequests : Prop :=
  (∀ s : State,
     let u : State :=
       { s with
         acct := { s.acct with global :=
           { s.acct.global with discarded := min 65535 (s.acct.global.discarded + 1) } }
         link := { s.link with receiver := .hunting, linkError := true } }
     (∀ why, exec (.frameDiscard why) s = .next u) ∧ exec .frameGapTimeout s = .next u ∧
     (∀ c, isRequest c = true → c.WellFormed = true → s.link.answerPending = true → s.link.handed ≠ some c →
       exec c s = .next u)) ∧
  (∀ (s : State) (type : Byte) (body : List Byte), s.Takes (.unknownRequest type body) →
     (requestLength type = none →
       exec (.unknownRequest type body) s =
         .next (s.answered (.unknownRequest type body) (.refused .unknownRequest))) ∧
     (∀ n, requestLength type = some n → body.length ≠ n →
       exec (.unknownRequest type body) s = .next (s.answered (.unknownRequest type body) (.refused .badLength))))

/-- The receiver: in HUNTING only the sync byte starts a frame, a length byte of 0 or above 250 discards it, the bytes of a
frame are collected, and a frame whose check fails, or that ends while an answer is pending, is discarded. When a response
has left, the answer is no longer pending; a new rate takes effect there and a frame in reception is then discarded. -/
def Obligations.ReceiverAndTransmitter : Prop :=
  (∀ (s : State) (b : Byte),
     (s.link.receiver = .hunting → b ≠ 0xB4 → exec (.linkByteReceived b) s = .next s) ∧
     (s.link.receiver = .hunting → b = 0xB4 →
       exec (.linkByteReceived b) s = .next { s with link := { s.link with receiver := .inFrame [] } }) ∧
     (s.link.receiver = .inFrame [] → b = 0 ∨ 250 < b.toNat →
       exec (.linkByteReceived b) s = exec (.frameDiscard .badLength) s) ∧
     (s.link.receiver = .inFrame [] → 1 ≤ b.toNat → b.toNat ≤ 250 →
       exec (.linkByteReceived b) s = .next { s with link := { s.link with receiver := .inFrame [b] } }) ∧
     (∀ l bs, s.link.receiver = .inFrame (l :: bs) → bs.length + 2 < l.toNat + 3 →
       exec (.linkByteReceived b) s =
         .next { s with link := { s.link with receiver := .inFrame (l :: bs ++ [b]) } }) ∧
     (∀ l bs, s.link.receiver = .inFrame (l :: bs) → l.toNat + 3 ≤ bs.length + 2 →
       s.link.answerPending = true ∨ frameCheckPasses (l :: bs ++ [b]) = false →
       exec (.linkByteReceived b) s = exec (.frameDiscard .overrun) s)) ∧
  (∀ (s : State) (r : List Byte), s.link.response = some r →
     (s.link.newRate = none →
       exec .responseSent s = .next { s with link := { s.link with answerPending := false, response := none } }) ∧
     (∀ n, s.link.newRate = some n → s.link.receiver = .hunting →
       exec .responseSent s =
         .next { s with link :=
           { s.link with answerPending := false, response := none, rate := n, newRate := none } }) ∧
     (∀ n bs, s.link.newRate = some n → s.link.receiver = .inFrame bs →
       exec .responseSent s =
         exec (.frameDiscard .rateChange) { s with link :=
           { s.link with answerPending := false, response := none, rate := n, newRate := none } }))

/-- STATUS, POSITION and COUNTERS answer their fields, byte for byte, from the state at that event and change nothing.
STATUS gives the alert set, the five engines, the counts of records, reservations, waiting positions and tear entries,
the last eviction, the edition, the band, the stamp, the size of the change set, the settings and the rate. POSITION gives
the summary, the card, the operation, the call, the recovery, the timers and the outputs. COUNTERS gives the live totals
and the snapshot set. Absent values are zeros there (the model's choice, notes/assumptions/12.md), a count wider than its
field is sent modulo the field (notes/assumptions/18.md), and the test time left is 0 outside TESTING. -/
def Obligations.ReportsChangeNothing : Prop :=
  ∀ s : State,
    let b1 := fun n : Nat => [BitVec.ofNat 8 n]
    let b2 := fun n : Nat => bytes16 (BitVec.ofNat 16 n)
    let mark := fun c : Bool => [if c then (1 : Byte) else 0]
    let number : Option CardOp → Nat := fun o =>
      [none, some CardOp.identify, some .verify, some .burn].idxOf o
    let summary := fun (p : PosId) (x : Position) =>
      b1 p.val ++
      b1 ([PosState.vacant, .reading, .refused, .recovering, .ready, .routed, .metering, .lastUnit, .freeCall, .clearing,
        .blocked].idxOf x.state) ++
      b1 (if x.state = .refused then
          [none, some RefusalCause.unreadable, some .foreign, some .empty, some .invalid, some .faulty].idxOf x.refusal
        else if x.state = .clearing then
          match x.call.bind (·.endCause) with
          | none => 0
          | some w =>
            16 + [EndCause.hungUp, .farEnd, .noAnswer, .exhausted, .debtLimit, .cardWithdrawn, .cardFault, .host,
              .blocked, .restart, .tariffUndefined, .complete, .empty].idxOf w
        else 0) ++
      b1 ([none, some HookLevel.on, some .off].idxOf x.hook.accepted) ++
      b1 ([none, some CardLevel.absent, some .present].idxOf x.card.accepted) ++
      b1 ([none, some LineCode.idle, some .proceed, some .answer, some .clearback].idxOf x.line.accepted) ++
      b2 x.remaining ++ b1 x.debt ++ b1 (if x.allocation = .home then p.val / 12 else 4)
    let segments := fun gs : List Segment =>
      ((gs.flatMap fun g : Segment => b1 g.band.val ++ [g.edition] ++ b2 g.units) ++ List.replicate 16 0).take 16
    let counted := fun u : Units =>
      b2 u.burned ++ b2 u.writtenOff ++ b1 u.owedOut ++ b1 u.doubtOut ++ mark u.anomaly
    let call : Option Call → List Byte := fun c =>
      match c with
      | none => List.replicate 44 0
      | some c =>
        [1] ++ b1 (if c.kind = .call then 0 else 1) ++ b1 c.cls.val ++ bytes32 c.setup ++ mark c.answer.isSome ++
        bytes32 (c.answer.getD 0) ++
        (match c.tariff with
          | none => [0, 0, 0, 0]
          | some k => b2 k.period ++ b1 k.step ++ mark k.follow) ++
        mark c.bandPending ++ b1 c.segments.length ++ mark c.merged ++ segments c.segments ++ b2 c.charged ++
        counted c.units
    let recovery : Option Recovery → List Byte := fun r =>
      match r with
      | none => List.replicate 14 0
      | some r =>
        [1] ++ b1 r.owedIn ++ b1 ([Resolution.noDoubt, .taken, .notTaken, .anomaly].idxOf r.resolution) ++
        bytes32 r.start ++ counted r.units
    (s.Takes .status → exec .status s = .next (s.answered .status (.accepted
      (bytes16 s.alertSet ++
       ([0, 1, 2, 3, 4] : List EngineId).flatMap (fun e =>
          b1 ([LaneState.testing, .inService, .suspect, .faulted, .disabled].idxOf (s.eng e).lane) ++
          mark (s.eng e).disablePending ++ b1 (if (s.eng e).lane = .testing then (s.eng e).testTimeLeft else 0) ++
          mark ((s.eng e).mode = .rotating) ++ b1 (s.eng e).grantLength ++ mark ((s.eng e).autoRelief && e ≠ 4) ++
          b1 (s.eng e).pointer ++ b1 (s.eng e).burst ++
          b1 (allPositions.filter fun p =>
            (s.pos p).pendingOp.isSome && engineOf p (s.pos p).allocation = e).length) ++
       b1 s.queue.records.length ++ b1 (allPositions.filter fun p => (s.pos p).reservation).length ++
       b1 (allPositions.filter fun p => (s.pos p).state = .recovering && !(s.pos p).reservation).length ++
       b1 s.tear.entries.length ++
       (match s.tear.lastEviction with
        | none => List.replicate 13 0
        | some v =>
          [1] ++ bytes16 v.key.series ++ bytes32 v.key.serial ++ b1 v.owed ++ b1 v.inDoubt ++ bytes32 v.stamp) ++
       [s.tariff.edition] ++ b1 s.tariff.band.val ++ bytes32 s.link.stamp ++
       b1 (allPositions.filter fun p => (s.pos p).changed).length ++
       b1 s.settings.urgency ++ b2 s.settings.answerWait ++ b1 s.settings.clearWait ++ b1 s.depths.hook ++
       b1 s.depths.card ++ b1 s.depths.line ++ b2 s.acct.interval ++ b1 s.link.attnMask.toNat ++
       b1 s.link.rate.val)))) ∧
    (s.Takes .counters → exec .counters s = .next (s.answered .counters (.accepted
      (bytes32 s.acct.totals.charged ++ bytes32 s.acct.totals.burned ++ bytes32 s.acct.totals.writtenOff ++
       bytes32 s.acct.totals.answered ++ bytes32 s.acct.totals.freeCalls ++ bytes32 s.acct.totals.recordsWritten ++
       (match s.acct.snapshot with
        | none => List.replicate 125 0
        | some n => [1] ++ bytes32 n.stamp ++ n.counts.flatMap fun c => b2 c.count ++ mark c.overflow))))) ∧
    (∀ p, s.Takes (.position (posByte p)) →
      let x := s.pos p
      exec (.position (posByte p)) s = .next (s.answered (.position (posByte p)) (.accepted
        (summary p x ++ b1 ([Profile.card, .free, .unused].idxOf x.profile) ++ mark x.blockPending ++
         (match x.identity with
          | none => List.replicate 9 0
          | some id => [1] ++ bytes16 id.key.series ++ bytes32 id.key.serial ++ b2 id.face) ++
         mark x.faulty ++ mark x.doubt.isSome ++ b2 (x.doubt.getD 0) ++ b1 x.retry ++ b1 (number x.pendingOp) ++
         (match x.inFlight with
          | none => [0, 0, 0]
          | some f => b1 (number (some f.op)) ++ b1 f.engine.val ++ mark f.discard) ++
         mark x.relieved ++ b1 ([none, some Allocation.home, some .relief].idxOf x.pendingAlloc) ++
         mark x.reservation ++ mark x.cardLost ++ call x.call ++ recovery x.recovery ++
         b2 x.unitTimer.count ++ mark x.unitTimer.running ++
         b1 ([OneShotKind.stopped, .answerWait, .tone, .clearWait].idxOf x.oneShot.kind) ++ b2 x.oneShot.count ++
         mark x.freezeMark ++ mark (x.profile = .unused) ++ mark x.lineEnable ++ mark x.forcedClear ++
         mark x.tone)))) ∧
    (∀ b : Byte, 48 ≤ b.toNat → s.Takes (.position b) →
      exec (.position b) s = .next (s.answered (.position b) (.refused .badPosition)))

/-- The lengths of the layouts: summary 10, record 54, tear entry 17, and the fields of STATUS 82, POSITION 103,
COUNTERS 149 (of a snapshot set with its forty counts, or of none) and TARIFF READ 8. That an absent last eviction, call,
recovery or snapshot set keeps its place as zeros is the model's choice (notes/assumptions/12.md). -/
def Obligations.LayoutsHaveTheirLengths : Prop :=
  (∀ p x, (summaryBytes p x).length = 10) ∧ (∀ r, (recordBytes r).length = 54) ∧
  (∀ t, (tearEntryBytes t).length = 17) ∧ (∀ s, (statusFields s).length = 82) ∧
  (∀ p x, (positionFields p x).length = 103) ∧
  (∀ a : Accounting, (∀ n, a.snapshot = some n → n.counts.length = 40) → (countersFields a).length = 149) ∧
  (∀ t e b, (tariffFields t e b).length = 8)

/-- RECORD PEEK is refused EMPTY where no record is queued and otherwise returns the oldest record with the number of
records and reservations; it changes nothing. -/
def Obligations.RecordPeekReturnsOldest : Prop :=
  ∀ s : State, s.Takes .recordPeek →
    (s.queue.records = [] → exec .recordPeek s = .next (s.answered .recordPeek (.refused .empty))) ∧
    (∀ r rest, s.queue.records = r :: rest →
      exec .recordPeek s = .next (s.answered .recordPeek (.accepted
        ([BitVec.ofNat 8 s.queue.records.length] ++
          [BitVec.ofNat 8 (allPositions.filter fun p => (s.pos p).reservation).length] ++ recordBytes r))))

/-- TEAR READ is refused BAD_VALUE above 31 and NOT_FOUND at or above the number of entries, and otherwise returns the
number of entries and the entry at the index, the oldest being 0; it changes nothing. -/
def Obligations.TearReadReturnsEntry : Prop :=
  ∀ (s : State) (i : Byte), s.Takes (.tearRead i) →
    (31 < i.toNat → exec (.tearRead i) s = .next (s.answered (.tearRead i) (.refused .badValue))) ∧
    (i.toNat ≤ 31 → s.tear.entries.length ≤ i.toNat →
      exec (.tearRead i) s = .next (s.answered (.tearRead i) (.refused .notFound))) ∧
    (∀ h : i.toNat < s.tear.entries.length, i.toNat ≤ 31 →
      exec (.tearRead i) s = .next (s.answered (.tearRead i) (.accepted
        ([BitVec.ofNat 8 s.tear.entries.length] ++ tearEntryBytes (s.tear.entries[i.toNat]'h)))))

/-- CHANGES returns the summaries of the lowest 24 members of the change set and the number left, clears the marks of
those it returns, and changes nothing else. -/
def Obligations.ChangesReturnsLowestMembers : Prop :=
  ∀ s : State, s.Takes .changes →
    let members := allPositions.filter fun p => (s.pos p).changed
    let taken := members.take 24
    ∃ t, exec .changes s = .next t ∧
      (∀ p, t.pos p = { s.pos p with changed := (s.pos p).changed && decide (p ∉ taken) }) ∧
      t = { (s.answered .changes (.accepted
          ([BitVec.ofNat 8 (members.length - taken.length)] ++ [BitVec.ofNat 8 taken.length] ++
            taken.flatMap fun p => summaryBytes p (s.pos p)))) with positions := t.positions }

/-! ### Requests on positions -/

/-- A ROUTE is refused BAD_POSITION above 47, BAD_VALUE above class 15, and otherwise with the code of the first test of
R26 that fails; a refused ROUTE changes nothing. -/
def Obligations.RouteRefusedByFirstFailingTest : Prop :=
  ∀ (s : State) (b v : Byte), s.Takes (.route b v) →
    let refused := fun code => exec (.route b v) s = .next (s.answered (.route b v) (.refused code))
    (48 ≤ b.toNat → refused .badPosition) ∧
    (b.toNat < 48 → 16 ≤ v.toNat → refused .badValue) ∧
    (∀ (p : PosId) (c : Fin 16) (before after : List (Bool × RefusalCode)) (code : RefusalCode),
      b = posByte p → v = BitVec.ofNat 8 c.val → routeTests s p c = before ++ (false, code) :: after →
      (∀ x ∈ before, x.1 = true) → refused code)

/-- A ROUTE that passes the tests of R26 claims the reservation and creates the call: ROUTED with ANSWER_WAIT running
for a charged class, FREE_CALL for a free one, which is counted. -/
def Obligations.AcceptedRouteStartsCall : Prop :=
  ∀ (s : State) (p : PosId) (c : Fin 16),
    let i := Instr.route (posByte p) (BitVec.ofNat 8 c.val)
    let e := s.tariff.active.entry c s.tariff.band
    let call : CallKind → Call := fun kind =>
      { kind := kind, cls := c, setup := s.link.stamp, answer := none, tariff := none, bandPending := false,
        segments := [], merged := false, charged := 0,
        units := { burned := 0, writtenOff := 0, owedOut := 0, doubtOut := 0, anomaly := false },
        endCause := none, duration := 0 }
    s.Takes i → (∀ x ∈ routeTests s p c, x.1 = true) → (s.pos p).debt = 0 → (s.pos p).doubt = none →
    (s.pos p).inFlight = none →
    (e.period ≠ 0 →
      exec i s = .next ((s.modPos p fun x =>
        { (x.rested .routed) with
          lineEnable := true, reservation := true, call := some (call .call), pendingOp := none
          oneShot := { kind := .answerWait, count := s.settings.answerWait * 100 } }).answered i (.accepted []))) ∧
    (e.period = 0 →
      exec i s = .next (State.answered
        { (s.modPos p fun x =>
            { (x.rested .freeCall) with
              lineEnable := true, reservation := true, call := some (call .free), pendingOp := none }) with
          acct := { s.acct with totals :=
            { s.acct.totals with freeCalls := s.acct.totals.freeCalls + 1 } } } i (.accepted [])))

/-- RELEASE outside a call is accepted without effect in CLEARING and refused WRONG_STATE elsewhere. BLOCK takes VACANT,
READY and REFUSED to BLOCKED with the card forgotten, keeps block pending in READING, RECOVERING and CLEARING, and does
not change BLOCKED. -/
def Obligations.ReleaseAndBlockOutsideCall : Prop :=
  (∀ s : State,
     (∀ b : Byte, 48 ≤ b.toNat → s.Takes (.release b) →
       exec (.release b) s = .next (s.answered (.release b) (.refused .badPosition))) ∧
     ∀ p, s.Takes (.release (posByte p)) →
       ((s.pos p).state = .clearing →
         exec (.release (posByte p)) s = .next (s.answered (.release (posByte p)) (.accepted []))) ∧
       ((s.pos p).state ∈ [.vacant, .reading, .refused, .recovering, .ready, .blocked] →
         exec (.release (posByte p)) s = .next (s.answered (.release (posByte p)) (.refused .wrongState)))) ∧
  (∀ (s : State) (p : PosId), s.Takes (.block (posByte p)) →
     ((s.pos p).state ∈ [.vacant, .ready, .refused] →
       ∃ t, exec (.block (posByte p)) s = .next t ∧
         ((s.modPos p fun x => { (x.cardless.rested .blocked) with blockPending := false }).answered
           (.block (posByte p)) (.accepted [])).UpToGrants t) ∧
     ((s.pos p).state = .reading ∨ (s.pos p).state = .recovering →
       exec (.block (posByte p)) s =
         .next ((s.modPos p fun x => { x with blockPending := true }).answered (.block (posByte p)) (.accepted []))) ∧
     ((s.pos p).state = .clearing → (s.pos p).forcedClear = true ∨ 0 < (s.pos p).debt →
       ∃ t, exec (.block (posByte p)) s = .next t ∧
         ((s.modPos p fun x => { x with blockPending := true }).answered (.block (posByte p))
           (.accepted [])).UpToGrants t) ∧
     ((s.pos p).state = .blocked →
       exec (.block (posByte p)) s = .next (s.answered (.block (posByte p)) (.accepted []))))

/-- UNBLOCK takes a BLOCKED position to READING where its profile is CARD and its card contact accepted PRESENT, else to
VACANT, and is refused WRONG_STATE in every other state and for profile UNUSED. FREEZE and PROFILE set the mark and the
profile; a position that stops being frozen has its last samples made absent and its run counts 0, its accepted values
kept; PROFILE is refused WRONG_STATE outside BLOCKED. -/
def Obligations.UnblockFreezeAndProfile : Prop :=
  (∀ (s : State) (p : PosId), s.Takes (.unblock (posByte p)) →
     ((s.pos p).state ≠ .blocked ∨ (s.pos p).profile = .unused →
       exec (.unblock (posByte p)) s = .next (s.answered (.unblock (posByte p)) (.refused .wrongState))) ∧
     ((s.pos p).state = .blocked → (s.pos p).profile = .card → (s.pos p).card.accepted = some .present →
       ∃ t, exec (.unblock (posByte p)) s = .next t ∧
         ((s.modPos p fun x => { (x.rested .reading) with retry := 0 }).answered (.unblock (posByte p))
           (.accepted [])).UpToGrants t) ∧
     ((s.pos p).state = .blocked →
       (s.pos p).profile = .free ∨ ((s.pos p).profile = .card ∧ (s.pos p).card.accepted ≠ some .present) →
       ∃ t, exec (.unblock (posByte p)) s = .next t ∧
         ((s.modPos p (·.rested .vacant)).answered (.unblock (posByte p)) (.accepted [])).UpToGrants t)) ∧
  (∀ (s : State) (p : PosId),
     let thawed := fun x : Position =>
       { x with
         hook := { x.hook with last := none, run := 0 }
         card := { x.card with last := none, run := 0 }
         line := { x.line with last := none, run := 0 } }
     (∀ (b : Byte) (m : Bool), b = (if m then 1 else 0) → s.Takes (.freeze (posByte p) b) →
       exec (.freeze (posByte p) b) s = .next ((s.modPos p fun x =>
         if x.freezeMark = true ∧ m = false ∧ x.profile ≠ .unused then thawed { x with freezeMark := m }
         else { x with freezeMark := m }).answered (.freeze (posByte p) b) (.accepted []))) ∧
     (∀ b : Byte, 1 < b.toNat → s.Takes (.freeze (posByte p) b) →
       exec (.freeze (posByte p) b) s = .next (s.answered (.freeze (posByte p) b) (.refused .badValue))) ∧
     (∀ (b : Byte) (v : Profile), b = BitVec.ofNat 8 v.code → s.Takes (.profile (posByte p) b) →
       ((s.pos p).state = .blocked →
         exec (.profile (posByte p) b) s = .next ((s.modPos p fun x =>
           if x.profile = .unused ∧ v ≠ .unused ∧ x.freezeMark = false then thawed { x with profile := v }
           else { x with profile := v }).answered (.profile (posByte p) b) (.accepted []))) ∧
       ((s.pos p).state ≠ .blocked →
         exec (.profile (posByte p) b) s = .next (s.answered (.profile (posByte p) b) (.refused .wrongState)))) ∧
     (∀ b : Byte, 2 < b.toNat → s.Takes (.profile (posByte p) b) →
       exec (.profile (posByte p) b) s = .next (s.answered (.profile (posByte p) b) (.refused .badValue))))

/-- ALLOCATE clears the relieved mark; with an operation in flight the value waits as the pending allocation, and with
none it is taken at once, setting the changed mark where it differs. HOME at a FAULTED lane with auto-relief on is
followed by relief. Another value is refused BAD_VALUE. -/
def Obligations.AllocateMovesPosition : Prop :=
  (∀ (s : State) (p : PosId) (b : Byte), 1 < b.toNat → s.Takes (.allocate (posByte p) b) →
    exec (.allocate (posByte p) b) s = .next (s.answered (.allocate (posByte p) b) (.refused .badValue))) ∧
  ∀ (s : State) (p : PosId) (b : Byte) (a : Allocation), b = (match a with | .home => 0 | .relief => 1) →
    s.Takes (.allocate (posByte p) b) →
    let relieves := a = .home ∧ (s.pos p).allocation ≠ .home ∧ (s.eng (homeEngine p)).lane = .faulted ∧
      (s.eng (homeEngine p)).autoRelief = true
    ((s.pos p).inFlight ≠ none →
      exec (.allocate (posByte p) b) s =
        .next ((s.modPos p fun x => { x with relieved := false, pendingAlloc := some a }).answered
          (.allocate (posByte p) b) (.accepted []))) ∧
    ((s.pos p).inFlight = none → ¬relieves →
      ∃ t, exec (.allocate (posByte p) b) s = .next t ∧
        ((s.modPos p fun x =>
          { x with relieved := false, allocation := a, changed := x.changed || decide (x.allocation ≠ a) }).answered
          (.allocate (posByte p) b) (.accepted [])).UpToGrants t) ∧
    ((s.pos p).inFlight = none → relieves →
      ∃ t, exec (.allocate (posByte p) b) s = .next t ∧
        ((s.modPos p fun x => { x with relieved := true, allocation := .relief, changed := true }).answered
          (.allocate (posByte p) b) (.accepted [])).UpToGrants t)

/-- A position above 47, and an engine above 4, is refused before any other test of its request, and changes nothing. -/
def Obligations.FieldsAboveTheRowAreRefused : Prop :=
  ∀ (s : State) (b v w u : Byte),
    (48 ≤ b.toNat →
      ∀ i ∈ [Instr.position b, .route b v, .release b, .block b, .unblock b, .profile b v, .freeze b v, .allocate b v],
        s.Takes i → exec i s = .next (s.answered i (.refused .badPosition))) ∧
    (4 < b.toNat →
      ∀ i ∈ [Instr.laneMode b v w u, .laneDisable b, .laneEnable b, .laneTest b],
        s.Takes i → exec i s = .next (s.answered i (.refused .badValue)))

/-! ### Requests on engines -/

/-- LANE TEST and LANE ENABLE start a bus test from FAULTED and from DISABLED and are refused WRONG_STATE in every other
lane state. LANE DISABLE takes a lane with nothing in flight to DISABLED and sets disable pending where an operation is in
flight. -/
def Obligations.LaneTestEnableAndDisable : Prop :=
  (∀ s : State,
     (∀ e, s.Takes (.laneTest (engByte e)) →
       ((s.eng e).lane = .faulted →
         exec (.laneTest (engByte e)) s = .next ((s.modEng e fun g =>
           { g with lane := .testing, testTimeLeft := 50 }).answered (.laneTest (engByte e)) (.accepted []))) ∧
       ((s.eng e).lane ≠ .faulted →
         exec (.laneTest (engByte e)) s = .next (s.answered (.laneTest (engByte e)) (.refused .wrongState)))) ∧
     (∀ e, s.Takes (.laneEnable (engByte e)) →
       ((s.eng e).lane = .disabled →
         exec (.laneEnable (engByte e)) s = .next ((s.modEng e fun g =>
           { g with lane := .testing, testTimeLeft := 50 }).answered (.laneEnable (engByte e)) (.accepted []))) ∧
       ((s.eng e).lane ≠ .disabled →
         exec (.laneEnable (engByte e)) s = .next (s.answered (.laneEnable (engByte e)) (.refused .wrongState)))) ∧
     (∀ b : Byte, 4 < b.toNat → s.Takes (.laneTest b) →
       exec (.laneTest b) s = .next (s.answered (.laneTest b) (.refused .badValue))) ∧
     (∀ b : Byte, 4 < b.toNat → s.Takes (.laneEnable b) →
       exec (.laneEnable b) s = .next (s.answered (.laneEnable b) (.refused .badValue)))) ∧
  (∀ (s : State) (e : EngineId), s.Takes (.laneDisable (engByte e)) →
     ((s.eng e).lane = .testing ∨ (s.eng e).lane = .faulted ∨
         ((s.eng e).lane ∈ [.inService, .suspect] ∧ (s.eng e).op = none) →
       exec (.laneDisable (engByte e)) s = .next ((s.modEng e fun g =>
         { g with lane := .disabled, testTimeLeft := 0 }).answered (.laneDisable (engByte e)) (.accepted []))) ∧
     ((s.eng e).lane ∈ [.inService, .suspect] → (s.eng e).op ≠ none →
       exec (.laneDisable (engByte e)) s = .next ((s.modEng e fun g =>
         { g with disablePending := true }).answered (.laneDisable (engByte e)) (.accepted []))) ∧
     ((s.eng e).lane = .disabled →
       exec (.laneDisable (engByte e)) s = .next (s.answered (.laneDisable (engByte e)) (.accepted []))))

/-- LANE MODE sets order mode, grant length and, at a lane engine, the auto-relief mark; a mark turned on at a FAULTED
lane relieves its positions at once. A value out of range, and auto-relief on for ER, is refused BAD_VALUE. -/
def Obligations.LaneModeSetsEngine : Prop :=
  (∀ (s : State) (e : EngineId) (m : OrderMode) (len : Byte) (auto : Bool),
    let i := Instr.laneMode (engByte e) (BitVec.ofNat 8 m.code) len (if auto then 1 else 0)
    s.Takes i → 1 ≤ len.toNat → len.toNat ≤ 8 → ¬(e = reliefEngine ∧ auto = true) →
      ∃ t, exec i s = .next t ∧
        (((s.modEng e fun g =>
          { g with
            mode := m, grantLength := len.toNat
            autoRelief := if e = reliefEngine then g.autoRelief else auto }).mapPos fun p x =>
          if auto = true ∧ (s.eng e).autoRelief = false ∧ (s.eng e).lane = .faulted ∧ homeEngine p = e ∧
              x.allocation = .home then
            { x with allocation := .relief, relieved := true, changed := true }
          else x).answered i (.accepted [])).UpToGrants t) ∧
  (∀ (s : State) (e m len auto : Byte), s.Takes (.laneMode e m len auto) →
    (4 < e.toNat ∨ 1 < m.toNat ∨ len.toNat = 0 ∨ 8 < len.toNat ∨ 1 < auto.toNat ∨ (e = 4 ∧ auto = 1)) →
      exec (.laneMode e m len auto) s = .next (s.answered (.laneMode e m len auto) (.refused .badValue)))

/-! ### The tariff store -/

/-- TARIFF STAGE writes one entry of the staged table, the five fields as sent or the undefined values where defined is
no, and is refused BAD_VALUE for a field out of range. TARIFF COMMIT puts the staged table into force under the edition
carried, in one event, and is refused BAD_VALUE for the edition in force. -/
def Obligations.TariffStageAndCommit : Prop :=
  (∀ (s : State) (c : Fin 16) (b : Fin 4) (period : Word16) (step initial : Byte) (follow : Byte),
     (let i := Instr.tariffStage (BitVec.ofNat 8 c.val) (BitVec.ofNat 8 b.val) 1 period step initial follow
      s.Takes i →
       (1 ≤ step.toNat ∧ step.toNat ≤ 4 ∧ initial.toNat ≤ 7 ∧ follow.toNat ≤ 1) →
         exec i s = .next (State.answered
            { s with
              tariff :=
                { s.tariff with
                  staged := s.tariff.staged.put c b
                    { defined := true, period := period, step := step.toNat, initial := initial.toNat,
                      follow := follow = 1 } } } i (.accepted []))) ∧
     (let i := Instr.tariffStage (BitVec.ofNat 8 c.val) (BitVec.ofNat 8 b.val) 0 period step initial follow
      s.Takes i →
       exec i s = .next (State.answered
          { s with
            tariff :=
              { s.tariff with
                staged := s.tariff.staged.put c b
                  { defined := false, period := 0, step := 1, initial := 0, follow := false } } } i (.accepted []))) ∧
     (∀ (e : TariffEntry) c2 b2, (s.tariff.staged.put c b e).entry c2 b2 =
       if c2 = c ∧ b2 = b then e else s.tariff.staged.entry c2 b2)) ∧
  (∀ (s : State) (cls band defined : Byte) (period : Word16) (step initial follow : Byte),
     let i := Instr.tariffStage cls band defined period step initial follow
     s.Takes i →
     (15 < cls.toNat ∨ 3 < band.toNat ∨ 1 < defined.toNat ∨
       (defined = 1 ∧ (1 < follow.toNat ∨ step.toNat = 0 ∨ 4 < step.toNat ∨ 7 < initial.toNat))) →
       exec i s = .next (s.answered i (.refused .badValue))) ∧
  (∀ (s : State) (n : Byte), s.Takes (.tariffCommit n) →
     (n = s.tariff.edition →
       exec (.tariffCommit n) s = .next (s.answered (.tariffCommit n) (.refused .badValue))) ∧
     (n ≠ s.tariff.edition →
       exec (.tariffCommit n) s =
         .next ({ s with tariff := { s.tariff with active := s.tariff.staged, edition := n } }.answered
           (.tariffCommit n) (.accepted []))))

/-- TARIFF COPY sets the staged table to the active table and changes nothing else. -/
def Obligations.TariffCopyStagesActive : Prop :=
  ∀ s : State, s.Takes .tariffCopy →
    exec .tariffCopy s =
      .next ({ s with tariff := { s.tariff with staged := s.tariff.active } }.answered .tariffCopy (.accepted []))

/-- TARIFF READ returns the selected entry with the active edition and the current band and changes nothing; another
selector, class or band is refused BAD_VALUE. -/
def Obligations.TariffReadReturnsEntry : Prop :=
  ∀ (s : State) (sel cls b : Byte), s.Takes (.tariffRead sel cls b) →
    (∀ (c : Fin 16) (k : Fin 4), cls = BitVec.ofNat 8 c.val → b = BitVec.ofNat 8 k.val → sel.toNat ≤ 1 →
      let t := if sel = 0 then s.tariff.active.entry c k else s.tariff.staged.entry c k
      exec (.tariffRead sel cls b) s = .next (s.answered (.tariffRead sel cls b) (.accepted
        ([if t.defined then 1 else 0] ++ bytes16 t.period ++ [BitVec.ofNat 8 t.step] ++ [BitVec.ofNat 8 t.initial] ++
          [if t.follow then 1 else 0] ++ [s.tariff.edition] ++ [BitVec.ofNat 8 s.tariff.band.val])))) ∧
    (1 < sel.toNat ∨ 15 < cls.toNat ∨ 3 < b.toNat →
      exec (.tariffRead sel cls b) s = .next (s.answered (.tariffRead sel cls b) (.refused .badValue)))

/-- A BAND that differs sets the current band and marks every metered call whose in-use tariff follows; an equal one has
no effect; one above 3 is refused BAD_VALUE. -/
def Obligations.BandMarksFollowingCalls : Prop :=
  ∀ (s : State) (b : Byte), s.Takes (.band b) →
    (3 < b.toNat → exec (.band b) s = .next (s.answered (.band b) (.refused .badValue))) ∧
    (∀ n : Fin 4, b = BitVec.ofNat 8 n.val →
      (n = s.tariff.band → exec (.band b) s = .next (s.answered (.band b) (.accepted []))) ∧
      (n ≠ s.tariff.band →
        exec (.band b) s = .next ((({ s with tariff := { s.tariff with band := n } } : State).mapPos fun _ x =>
          if x.state = .metering ∨ x.state = .lastUnit then
            { x with call := x.call.map fun c =>
              if c.tariff.map (·.follow) = some true then { c with bandPending := true } else c }
          else x).answered (.band b) (.accepted []))))

/-! ### Requests on the queue and on the list -/

/-- RECORD RELEASE removes the oldest record where it carries the sequence sent, and is refused EMPTY or NOT_OLDEST
otherwise. The place it frees goes to the lowest waiting position, which claims its reservation and takes its entry in the
same event; no waiting position with another key moves. -/
def Obligations.RecordReleaseFreesPlace : Prop :=
  (∀ (s : State) (q : Word16), s.Takes (.recordRelease q) →
     (s.queue.records = [] →
       exec (.recordRelease q) s = .next (s.answered (.recordRelease q) (.refused .empty))) ∧
     (∀ r rest, s.queue.records = r :: rest → r.sequence ≠ q →
       exec (.recordRelease q) s = .next (s.answered (.recordRelease q) (.refused .notOldest))) ∧
     (∀ r rest, s.queue.records = r :: rest → r.sequence = q → s.waitSet = [] →
       exec (.recordRelease q) s = .next ({ s with queue := { s.queue with records := rest } }.answered
         (.recordRelease q) (.accepted [])))) ∧
  (∀ (s : State) (q : Word16) (r : CallRecord) (rest : List CallRecord) (p : PosId) (ps : List PosId) (k : CardKey)
     (t0 : TearEntry),
     s.Takes (.recordRelease q) → s.queue.records = r :: rest → r.sequence = q → s.waitSet = p :: ps →
     (s.pos p).key = some k → s.tearEntry k = some t0 → t0.inDoubt = none → 0 < t0.owed → 0 < (s.pos p).remaining →
     ∃ t, exec (.recordRelease q) s = .next t ∧ (t.pos p).reservation = true ∧ (t.pos p).state = .recovering ∧
       (t.pos p).debt = min t0.owed (min 7 (s.pos p).remaining) ∧
       t.queue = { s.queue with records := rest } ∧
       t.tear.entries = s.tear.entries.filter (fun x => x.key ≠ k) ∧
       (∀ w ∈ ps, (s.pos w).key ≠ some k → (s.pos w).SameButOp (t.pos w)) ∧
       (∀ w ∈ ps, w ≠ p → (s.pos w).key = some k → (t.pos w).state ≠ .recovering))

/-- TEAR DELETE removes the entry of a key and writes its units off; positions waiting for the key leave RECOVERING, and
no eviction is counted. An unlisted key is refused NOT_FOUND. -/
def Obligations.TearDeleteWritesOffEntry : Prop :=
  ∀ (s : State) (series : Word16) (serial : Word32), s.Takes (.tearDelete series serial) →
    let k : CardKey := { series := series, serial := serial }
    let i := Instr.tearDelete series serial
    (s.tearEntry k = none → exec i s = .next (s.answered i (.refused .notFound))) ∧
    (∀ t0, s.tearEntry k = some t0 →
      exec i s = .next (State.answered
        { (s.mapPos fun _ x =>
            if x.state = .recovering ∧ x.reservation = false ∧ x.key = some k then
              if x.blockPending = true then { (x.cardless.rested .blocked) with blockPending := false }
              else if x.remaining = 0 then x.refusedWith .empty
              else x.rested .ready
            else x) with
          tear := { s.tear with entries := s.tear.entries.filter fun t => t.key ≠ k }
          acct := s.acct.plusWrittenOff (t0.owed + if t0.inDoubt = none then 0 else 1) } i (.accepted [])))

/-! ### Settings and alerts -/

/-- SET stores each setting within its range and is refused BAD_VALUE outside it and for another code. The snapshot interval
starts its timer, or stops it at 0, and no expiry of the old count follows (for an interval other than 0 the model's
reading, notes/assumptions/8.md). -/
def Obligations.SetStoresSetting : Prop :=
  ∀ (s : State) (v : Word16),
    let sets := fun (code : Byte) (lo hi : Nat) (u : State) =>
      s.Takes (.set code v) →
        (lo ≤ v.toNat → v.toNat ≤ hi → exec (.set code v) s = .next (u.answered (.set code v) (.accepted []))) ∧
        (v.toNat < lo ∨ hi < v.toNat → exec (.set code v) s = .next (s.answered (.set code v) (.refused .badValue)))
    sets 1 1 7 { s with settings := { s.settings with urgency := v.toNat } } ∧
    sets 2 10 300 { s with settings := { s.settings with answerWait := v.toNat } } ∧
    sets 3 5 50 { s with settings := { s.settings with clearWait := v.toNat } } ∧
    sets 4 2 8 { s with depths := { s.depths with hook := v.toNat } } ∧
    sets 5 2 8 { s with depths := { s.depths with card := v.toNat } } ∧
    sets 6 2 8 { s with depths := { s.depths with line := v.toNat } } ∧
    sets 8 0 7 { s with link := { s.link with attnMask := BitVec.ofNat 3 v.toNat } } ∧
    (s.Takes (.set 7 v) →
      (v = 0 ∨ (10 ≤ v.toNat ∧ v.toNat ≤ 3600) →
        exec (.set 7 v) s = .next ({ s with acct :=
          { s.acct with interval := v.toNat, intervalLeft := v.toNat, intervalDue := false } }.answered (.set 7 v)
            (.accepted []))) ∧
      ((1 ≤ v.toNat ∧ v.toNat ≤ 9) ∨ 3600 < v.toNat →
        exec (.set 7 v) s = .next (s.answered (.set 7 v) (.refused .badValue)))) ∧
    (∀ code : Byte, code.toNat = 0 ∨ 8 < code.toNat → s.Takes (.set code v) →
      exec (.set code v) s = .next (s.answered (.set code v) (.refused .badValue)))

/-- CLEAR ALERTS clears the latched alerts it names and ignores every other value; an accepted LINK RATE other than the
one in force waits for its response to leave. -/
def Obligations.ClearAlertsAndLinkRate : Prop :=
  ∀ s : State,
    (∀ a : Word16, s.Takes (.clearAlerts a) →
      exec (.clearAlerts a) s = .next ({ s with link :=
        { s.link with
          tearEvicted := s.link.tearEvicted && (a &&& 0x0100 = 0)
          snapshotReady := s.link.snapshotReady && (a &&& 0x0200 = 0)
          linkError := s.link.linkError && (a &&& 0x0400 = 0) } }.answered (.clearAlerts a) (.accepted []))) ∧
    (∀ b : Byte, s.Takes (.linkRate b) →
      (4 < b.toNat → exec (.linkRate b) s = .next (s.answered (.linkRate b) (.refused .badValue))) ∧
      (∀ r : Fin 5, b = BitVec.ofNat 8 r.val →
        (r = s.link.rate → exec (.linkRate b) s = .next (s.answered (.linkRate b) (.accepted []))) ∧
        (r ≠ s.link.rate →
          exec (.linkRate b) s = .next ({ s with link := { s.link with newRate := some r } }.answered (.linkRate b)
            (.accepted [])))))

/-- The alert set is the sum of the values of the alerts standing, and ATTN is asserted exactly while a condition whose
mask mark is set holds. -/
def Obligations.AlertsAndAttnFollowState : Prop :=
  ∀ s : State,
    let v := fun (stands : Bool) (n : Nat) => if stands then n else 0
    let faulted := fun e : EngineId => ((s.eng e).lane = .faulted : Bool)
    let held : Bool := s.queue.records.length + s.reservations = 64
    s.alertSet.toNat =
      v (faulted 0) 1 + v (faulted 1) 2 + v (faulted 2) 4 + v (faulted 3) 8 + v (faulted 4) 16 + v held 32 +
        v s.link.tearEvicted 256 + v s.link.snapshotReady 512 + v s.link.linkError 1024 ∧
    (s.attn = true ↔
      (s.link.attnMask &&& 1 ≠ 0 ∧ ∃ p, (s.pos p).changed = true) ∨
      (s.link.attnMask &&& 2 ≠ 0 ∧ s.queue.records ≠ []) ∨
      (s.link.attnMask &&& 4 ≠ 0 ∧ s.alertSet ≠ 0))

/-- RESTART leaves every position VACANT or BLOCKED with its card, its call and its inputs cleared, its outputs off and no
reservation, the change set empty and LINK_ERROR off. The calls end first and the recoveries after them, each in ascending
order of position: each passes its debt as one creation request, with a unit in doubt where a BURN was cut off, and writes
its record at the next sequence. An operation cut off is counted ABANDONED, a pending allocation is applied there, and a
lane whose disable was pending is DISABLED. Every other lane state is kept, a bus test starting again, and so are profiles,
freeze marks, allocations, relieved marks, the engines' settings, the tariff store, the settings, the snapshot set and its
timer, the other totals, the rate, the mask, the receiver and the stamp. That a notice not yet taken is forgotten is the
model's choice (notes/assumptions/20.md). -/
def Obligations.RestartBringsPositionsToRest : Prop :=
  ∀ s : State, s.Takes .restart → ∃ t, exec .restart s = .next t ∧
    (∀ p, (t.pos p).state =
        (if (s.pos p).state = .blocked ∨ (s.pos p).blockPending = true then .blocked else .vacant) ∧
      (t.pos p).identity = none ∧ (t.pos p).remaining = 0 ∧ (t.pos p).faulty = false ∧ (t.pos p).debt = 0 ∧
      (t.pos p).doubt = none ∧ (t.pos p).retry = 0 ∧ (t.pos p).refusal = none ∧ (t.pos p).pendingOp = none ∧
      (t.pos p).inFlight = none ∧ (t.pos p).call = none ∧ (t.pos p).recovery = none ∧ (t.pos p).cardLost = false ∧
      (t.pos p).cardLeft = false ∧ (t.pos p).blockPending = false ∧ (t.pos p).changed = false ∧
      (t.pos p).reservation = false ∧ (t.pos p).notice = none ∧
      (t.pos p).hook = { accepted := none, last := none, run := 0 } ∧
      (t.pos p).card = { accepted := none, last := none, run := 0 } ∧
      (t.pos p).line = { accepted := none, last := none, run := 0 } ∧
      (t.pos p).lineEnable = false ∧ (t.pos p).forcedClear = false ∧ (t.pos p).tone = false ∧
      (t.pos p).unitTimer = { count := 0, running := false } ∧
      (t.pos p).oneShot = { kind := .stopped, count := 0 } ∧
      (t.pos p).profile = (s.pos p).profile ∧ (t.pos p).freezeMark = (s.pos p).freezeMark) ∧
    (s.OperationsAgree → ∀ p,
      (let applied := if (s.pos p).inFlight = none then none else (s.pos p).pendingAlloc
       let relieves : Prop := applied = some .home ∧ (s.pos p).allocation = .relief ∧
         (s.eng (homeEngine p)).lane = .faulted ∧ (s.eng (homeEngine p)).autoRelief = true
       (t.pos p).pendingAlloc = (if (s.pos p).inFlight = none then (s.pos p).pendingAlloc else none) ∧
       (relieves → (t.pos p).allocation = .relief ∧ (t.pos p).relieved = true) ∧
       (¬relieves → (t.pos p).allocation = applied.getD (s.pos p).allocation ∧
         (t.pos p).relieved = (s.pos p).relieved))) ∧
    (∀ e, t.eng e =
      (let lane : LaneState := if (s.eng e).disablePending = true ∧ (s.eng e).op ≠ none then .disabled else (s.eng e).lane
       { s.eng e with
         lane := lane, testTimeLeft := if lane = .testing then 50 else (s.eng e).testTimeLeft, op := none
         laneReset := false, disablePending := false, burst := 0 })) ∧
    (∀ e : EngineId, t.acct.engines[e.val] =
      if (s.eng e).op = none then s.acct.engines[e.val]
      else
        { s.acct.engines[e.val] with
          abandoned := min 65535 (s.acct.engines[e.val].abandoned + 1) }) ∧
    (let doubt := fun p : PosId =>
        if ((s.pos p).inFlight.map fun f => (f.op, f.discard)) = some (.burn, false) then some (s.pos p).remaining
        else (s.pos p).doubt
     let calls := allPositions.filter fun p =>
       (s.pos p).state ∈ [.routed, .metering, .lastUnit, .freeCall, .clearing]
     let recoveries := allPositions.filter fun p => (s.pos p).state = .recovering ∧ (s.pos p).recovery ≠ none
     let owes := fun p : PosId => (s.pos p).identity ≠ none ∧ (0 < (s.pos p).debt ∨ doubt p ≠ none)
     let out := fun (p : PosId) (u : Units) =>
       let d := if doubt p = none then 0 else 1
       if owes p then { u with owedOut := u.owedOut + ((s.pos p).debt - d), doubtOut := u.doubtOut + d } else u
     let listed := ((calls ++ recoveries).filter fun p => owes p).foldl (fun u p =>
       match (s.pos p).identity with
       | none => u
       | some id =>
         u.createEntry
           { key := id.key, face := id.face, owed := (s.pos p).debt - (if doubt p = none then 0 else 1)
             inDoubt := doubt p, origin := p, stamp := s.link.stamp }) s
     s.OperationsAgree → (∀ p, (s.pos p).ReservationLaw ∧ (s.pos p).ContextLaw) →
     t.tear = listed.tear ∧ t.link.tearEvicted = listed.link.tearEvicted ∧
     t.acct.global = listed.acct.global ∧
     t.acct.totals =
       { s.acct.totals with
         writtenOff := listed.acct.totals.writtenOff
         recordsWritten := s.acct.totals.recordsWritten + BitVec.ofNat 32 (calls.length + recoveries.length) } ∧
     t.queue.nextSequence = s.queue.nextSequence + BitVec.ofNat 16 (calls.length + recoveries.length) ∧
     t.queue.records = s.queue.records ++
       (calls.zipIdx.filterMap fun x =>
         (s.pos x.1).call.map fun c =>
           let ended : Call :=
             if (s.pos x.1).state = .clearing then c
             else
               { c with
                 endCause := some .restart, duration := (c.answer.map fun a => s.link.stamp - a).getD 0 }
           ({ ended with units := out x.1 c.units } : Call).written x.1 (s.pos x.1).key
             (s.queue.nextSequence + BitVec.ofNat 16 x.2) (ended.endCause.getD .restart)) ++
       ((recoveries.zipIdx calls.length).filterMap fun x =>
         (s.pos x.1).recovery.map fun r =>
           ({ r with units := out x.1 r.units } : Recovery).written x.1 (s.pos x.1).key
             (s.queue.nextSequence + BitVec.ofNat 16 x.2) .restart)) ∧
    s.queue.records <+: t.queue.records ∧ (s.link.tearEvicted = true → t.link.tearEvicted = true) ∧
    t.acct.snapshot = s.acct.snapshot ∧ t.acct.interval = s.acct.interval ∧
    t.acct.intervalLeft = s.acct.intervalLeft ∧ t.acct.intervalDue = s.acct.intervalDue ∧
    t.tariff = s.tariff ∧ t.settings = s.settings ∧ t.depths = s.depths ∧ t.pending = s.pending ∧
    t.link.stamp = s.link.stamp ∧ t.link.rate = s.link.rate ∧ t.link.attnMask = s.link.attnMask ∧
    t.link.receiver = s.link.receiver ∧ t.link.linkError = false ∧ t.link.snapshotReady = s.link.snapshotReady ∧
    t.link.response = some (responseFrame 0x6F (.accepted []))

/-! ### Arbitration -/

/-- The arbiter takes a candidate of the highest urgency class that has one: class A, any operation of a position in
CLEARING and a BURN or VERIFY whose debt is at or above the urgency threshold; class B, an IDENTIFY; class C, the rest.
Within the class FIXED takes the lowest position, and ROTATING the first met from the rotation pointer upward and round. A
free engine grants the candidate taken: its operation is in flight from its first step, with the counter before, and for a
BURN the card's key, taken there; the pointer goes one past its reader, the burst is 1, and the grant is counted. An engine
that is not free, or has no candidate, grants nothing. -/
def Obligations.ArbiterServesHighestClass : Prop :=
  (∀ (s : State) (e : EngineId),
    let cls := fun q : PosId =>
      if (s.pos q).state = .clearing ∨
          ((s.pos q).pendingOp ∈ [some .burn, some .verify] ∧ s.settings.urgency ≤ (s.pos q).debt) then 0
      else if (s.pos q).pendingOp = some .identify then 1
      else 2
    (s.choose e = none ↔ s.candidates e = []) ∧
    ∀ p, s.choose e = some p →
      p ∈ s.candidates e ∧ (∀ q ∈ s.candidates e, cls p ≤ cls q) ∧
      (∀ q ∈ s.candidates e, cls q = cls p →
        ((s.eng e).mode = .fixed → p ≤ q) ∧
        ((s.eng e).mode = .rotating → (s.eng e).pointer < busSize e →
          (readerIndex e p + busSize e - (s.eng e).pointer) % busSize e ≤
            (readerIndex e q + busSize e - (s.eng e).pointer) % busSize e))) ∧
  (∀ (s : State) (e : EngineId) (p : PosId),
    p ∈ s.candidates e ↔ (s.pos p).pendingOp ≠ none ∧
      (if (s.pos p).allocation = .home then p.val / 12 else 4) = e.val) ∧
  (∀ (s : State) (e : EngineId),
    let free : Prop :=
      (s.eng e).lane ∈ [.inService, .suspect] ∧ (s.eng e).disablePending = false ∧ (s.eng e).op = none
    (¬free ∨ s.candidates e = [] → s.arbitrate e = s) ∧
    (∀ p op, free → s.choose e = some p → (s.pos p).pendingOp = some op →
      s.arbitrate e =
        { ((s.modPos p fun x =>
              { x with pendingOp := none, inFlight := some { engine := e, op := op, discard := false } }).modEng e
            fun g =>
              { g with
                op := some
                  { position := p, op := op, step := .select, before := (s.pos p).remaining
                    key := if op = .burn then (s.pos p).key else none }
                pointer := if e = 4 then (p.val + 1) % 48 else (p.val % 12 + 1) % 12
                burst := 1 }) with
          acct :=
            { s.acct with
              engines := s.acct.engines.set e.val
                { s.acct.engines[e.val] with grants := min 65535 (s.acct.engines[e.val].grants + 1) } } }))

/-! ### Headline statements -/

/-- Every request is read back from the type and body of its frame: no field of any request is dropped. -/
def Obligations.DecodeReadsEncodedRequest : Prop :=
  ∀ c : Instr, isRequest c = true → c.WellFormed = true → decodeRequest (requestType c) (requestBody c) = c

/-- The frame of any request, received byte by byte by a HUNTING receiver with no answer pending, hands exactly that
request on, makes the answer pending and changes nothing else. The request waits in the link controller until its
command is taken (notes/assumptions/1.md). -/
def Obligations.FrameHandsItsRequestOn : Prop :=
  ∀ (c : Instr) (s : State), isRequest c = true → c.WellFormed = true → s.link.receiver = .hunting →
    s.link.answerPending = false →
    (frame (requestType c) (requestBody c)).foldl
        (fun o b => match o with
          | Outcome.next t => exec (.linkByteReceived b) t
          | other => other) (Outcome.next s) =
      .next { s with link := { s.link with answerPending := true, handed := some c } }

/-- A refused request has no effect but its refusal response. -/
def Obligations.RefusedRequestChangesNothing : Prop :=
  ∀ (c : Instr) (s t : State) (code : RefusalCode), isRequest c = true → s.Takes c → c.WellFormed = true →
    exec c s = .next t → t.link.response = some (responseFrame (requestType c) (.refused code)) →
    t = s.answered c (.refused code)

/-- Every step keeps the law of the outputs (line enable exactly in the call states, forced clear only in CLEARING, tone
only in LAST_UNIT), and keeps every setting within its range. -/
def Obligations.StepKeepsOutputsAndSettings : Prop :=
  (∀ s t : State, (∀ p, (s.pos p).OutputsFollow) → step s = .next t → ∀ p, (t.pos p).OutputsFollow) ∧
  (∀ s t : State, s.SettingsInRange → step s = .next t → t.SettingsInRange)

/-- Every step keeps the debts at 7 or less and the tear list sound (at most 32 entries, no two of one key, each owing 0
to 8 units and at least one unit in all), and keeps the queued sequences ascending by one modulo 65536. -/
def Obligations.StepKeepsTearListAndQueue : Prop :=
  (∀ s t : State, (∀ p, (s.pos p).debt ≤ 7) → s.tear.Sound → step s = .next t →
     (∀ p, (t.pos p).debt ≤ 7) ∧ t.tear.Sound) ∧
  (∀ s t : State, s.queue.Consecutive → step s = .next t → t.queue.Consecutive)

/-- The invariants of the two statements before (the outputs and settings, the debts, the tear list and the queue) and the
conservation of the statement after hold at power-on reset. -/
def Obligations.LawsHoldAtReset : Prop :=
  (∀ p, (State.reset.pos p).OutputsFollow) ∧ State.reset.SettingsInRange ∧ (∀ p, (State.reset.pos p).debt ≤ 7) ∧
  State.reset.tear.Sound ∧ State.reset.queue.Consecutive ∧ State.reset.Conserved

/-- Conservation of units: in every state the block can come to, the charged total equals the burned total plus the
written-off total plus the debts plus the units of the tear entries, modulo 2^32. -/
def Obligations.UnitsAreConserved : Prop :=
  ∀ s, Reachable s → s.Conserved

/-- In every state the block can come to, each debt keeps its law, each operation in flight is named by its engine and
its position alike and runs on a lane in service or suspect, each call and each recovery stands in its states alone, a
card lost mark only while an operation runs at a position whose card has left, each reservation is held exactly where a
record is due, and records and reservations never exceed 64. -/
def Obligations.DebtsAndReservationsKeepTheirLaws : Prop :=
  ∀ s, Reachable s →
    (∀ p, (s.pos p).DebtLaw ∧ (s.pos p).ReservationLaw ∧ (s.pos p).ContextLaw ∧ (s.pos p).LossLaw) ∧
    s.OperationsAgree ∧
    s.queue.records.length + s.reservations ≤ 64

/-- In every state the block can come to, a position with nothing in flight stands with the operation it needs, one with an
operation in flight has no other pending, and no idle usable engine leaves a candidate waiting. -/
def Obligations.OperationsAreDerivedAndServed : Prop :=
  ∀ s, Reachable s →
    (∀ p, (s.pos p).inFlight = none → (s.pos p).Needs (s.pos p).pendingOp) ∧
    (∀ p, (s.pos p).inFlight ≠ none → (s.pos p).pendingOp = none) ∧
    (∀ e, (s.eng e).lane ∈ [.inService, .suspect] → (s.eng e).disablePending = false → (s.eng e).op = none →
      s.candidates e = [])
end

