-- ==== Sys2Proof/Laws/State.lean ====
section
/-!
SUPPORT. Reading a field after an update of the state: one lemma for each field and each update, and the reads of one
position and one engine.
-/

namespace Sys2Proof.Machine

/-! ### modPos -/

@[simp] theorem State.modPos_positions (s : State) (p : PosId) (f : Position → Position) :
    (s.modPos p f).positions = s.positions.set p.val (f (s.pos p)) := rfl

@[simp] theorem State.modPos_depths (s : State) (p : PosId) (f : Position → Position) :
    (s.modPos p f).depths = s.depths := rfl

@[simp] theorem State.modPos_settings (s : State) (p : PosId) (f : Position → Position) :
    (s.modPos p f).settings = s.settings := rfl

@[simp] theorem State.modPos_tariff (s : State) (p : PosId) (f : Position → Position) :
    (s.modPos p f).tariff = s.tariff := rfl

@[simp] theorem State.modPos_engines (s : State) (p : PosId) (f : Position → Position) :
    (s.modPos p f).engines = s.engines := rfl

@[simp] theorem State.modPos_tear (s : State) (p : PosId) (f : Position → Position) :
    (s.modPos p f).tear = s.tear := rfl

@[simp] theorem State.modPos_queue (s : State) (p : PosId) (f : Position → Position) :
    (s.modPos p f).queue = s.queue := rfl

@[simp] theorem State.modPos_acct (s : State) (p : PosId) (f : Position → Position) :
    (s.modPos p f).acct = s.acct := rfl

@[simp] theorem State.modPos_link (s : State) (p : PosId) (f : Position → Position) :
    (s.modPos p f).link = s.link := rfl

@[simp] theorem State.modPos_pending (s : State) (p : PosId) (f : Position → Position) :
    (s.modPos p f).pending = s.pending := rfl

@[simp] theorem State.modPos_eng (s : State) (p : PosId) (f : Position → Position) (d : EngineId) :
    (s.modPos p f).eng d = s.eng d := rfl

/-! ### mapPos -/

@[simp] theorem State.mapPos_positions (s : State) (f : PosId → Position → Position) :
    (s.mapPos f).positions = Vector.ofFn fun p => f p (s.pos p) := by unfold State.mapPos; rfl

@[simp] theorem State.mapPos_depths (s : State) (f : PosId → Position → Position) :
    (s.mapPos f).depths = s.depths := by unfold State.mapPos; rfl

@[simp] theorem State.mapPos_settings (s : State) (f : PosId → Position → Position) :
    (s.mapPos f).settings = s.settings := by unfold State.mapPos; rfl

@[simp] theorem State.mapPos_tariff (s : State) (f : PosId → Position → Position) :
    (s.mapPos f).tariff = s.tariff := by unfold State.mapPos; rfl

@[simp] theorem State.mapPos_engines (s : State) (f : PosId → Position → Position) :
    (s.mapPos f).engines = s.engines := by unfold State.mapPos; rfl

@[simp] theorem State.mapPos_tear (s : State) (f : PosId → Position → Position) :
    (s.mapPos f).tear = s.tear := by unfold State.mapPos; rfl

@[simp] theorem State.mapPos_queue (s : State) (f : PosId → Position → Position) :
    (s.mapPos f).queue = s.queue := by unfold State.mapPos; rfl

@[simp] theorem State.mapPos_acct (s : State) (f : PosId → Position → Position) :
    (s.mapPos f).acct = s.acct := by unfold State.mapPos; rfl

@[simp] theorem State.mapPos_link (s : State) (f : PosId → Position → Position) :
    (s.mapPos f).link = s.link := by unfold State.mapPos; rfl

@[simp] theorem State.mapPos_pending (s : State) (f : PosId → Position → Position) :
    (s.mapPos f).pending = s.pending := by unfold State.mapPos; rfl

@[simp] theorem State.mapPos_eng (s : State) (f : PosId → Position → Position) (d : EngineId) :
    (s.mapPos f).eng d = s.eng d := by simp only [State.eng, State.mapPos_engines]

/-! ### modEng -/

@[simp] theorem State.modEng_positions (s : State) (e : EngineId) (f : Engine → Engine) :
    (s.modEng e f).positions = s.positions := rfl

@[simp] theorem State.modEng_depths (s : State) (e : EngineId) (f : Engine → Engine) :
    (s.modEng e f).depths = s.depths := rfl

@[simp] theorem State.modEng_settings (s : State) (e : EngineId) (f : Engine → Engine) :
    (s.modEng e f).settings = s.settings := rfl

@[simp] theorem State.modEng_tariff (s : State) (e : EngineId) (f : Engine → Engine) :
    (s.modEng e f).tariff = s.tariff := rfl

@[simp] theorem State.modEng_engines (s : State) (e : EngineId) (f : Engine → Engine) :
    (s.modEng e f).engines = s.engines.set e.val (f (s.eng e)) := rfl

@[simp] theorem State.modEng_tear (s : State) (e : EngineId) (f : Engine → Engine) :
    (s.modEng e f).tear = s.tear := rfl

@[simp] theorem State.modEng_queue (s : State) (e : EngineId) (f : Engine → Engine) :
    (s.modEng e f).queue = s.queue := rfl

@[simp] theorem State.modEng_acct (s : State) (e : EngineId) (f : Engine → Engine) :
    (s.modEng e f).acct = s.acct := rfl

@[simp] theorem State.modEng_link (s : State) (e : EngineId) (f : Engine → Engine) :
    (s.modEng e f).link = s.link := rfl

@[simp] theorem State.modEng_pending (s : State) (e : EngineId) (f : Engine → Engine) :
    (s.modEng e f).pending = s.pending := rfl

@[simp] theorem State.modEng_pos (s : State) (e : EngineId) (f : Engine → Engine) (q : PosId) :
    (s.modEng e f).pos q = s.pos q := rfl

/-! ### mapEng -/

@[simp] theorem State.mapEng_positions (s : State) (f : EngineId → Engine → Engine) :
    (s.mapEng f).positions = s.positions := rfl

@[simp] theorem State.mapEng_depths (s : State) (f : EngineId → Engine → Engine) :
    (s.mapEng f).depths = s.depths := rfl

@[simp] theorem State.mapEng_settings (s : State) (f : EngineId → Engine → Engine) :
    (s.mapEng f).settings = s.settings := rfl

@[simp] theorem State.mapEng_tariff (s : State) (f : EngineId → Engine → Engine) :
    (s.mapEng f).tariff = s.tariff := rfl

@[simp] theorem State.mapEng_engines (s : State) (f : EngineId → Engine → Engine) :
    (s.mapEng f).engines = Vector.ofFn fun e => f e (s.eng e) := rfl

@[simp] theorem State.mapEng_tear (s : State) (f : EngineId → Engine → Engine) :
    (s.mapEng f).tear = s.tear := rfl

@[simp] theorem State.mapEng_queue (s : State) (f : EngineId → Engine → Engine) :
    (s.mapEng f).queue = s.queue := rfl

@[simp] theorem State.mapEng_acct (s : State) (f : EngineId → Engine → Engine) :
    (s.mapEng f).acct = s.acct := rfl

@[simp] theorem State.mapEng_link (s : State) (f : EngineId → Engine → Engine) :
    (s.mapEng f).link = s.link := rfl

@[simp] theorem State.mapEng_pending (s : State) (f : EngineId → Engine → Engine) :
    (s.mapEng f).pending = s.pending := rfl

@[simp] theorem State.mapEng_pos (s : State) (f : EngineId → Engine → Engine) (q : PosId) :
    (s.mapEng f).pos q = s.pos q := rfl

/-! ### modLink -/

@[simp] theorem State.modLink_positions (s : State) (f : Link → Link) :
    (s.modLink f).positions = s.positions := rfl

@[simp] theorem State.modLink_depths (s : State) (f : Link → Link) :
    (s.modLink f).depths = s.depths := rfl

@[simp] theorem State.modLink_settings (s : State) (f : Link → Link) :
    (s.modLink f).settings = s.settings := rfl

@[simp] theorem State.modLink_tariff (s : State) (f : Link → Link) :
    (s.modLink f).tariff = s.tariff := rfl

@[simp] theorem State.modLink_engines (s : State) (f : Link → Link) :
    (s.modLink f).engines = s.engines := rfl

@[simp] theorem State.modLink_tear (s : State) (f : Link → Link) :
    (s.modLink f).tear = s.tear := rfl

@[simp] theorem State.modLink_queue (s : State) (f : Link → Link) :
    (s.modLink f).queue = s.queue := rfl

@[simp] theorem State.modLink_acct (s : State) (f : Link → Link) :
    (s.modLink f).acct = s.acct := rfl

@[simp] theorem State.modLink_link (s : State) (f : Link → Link) :
    (s.modLink f).link = f s.link := rfl

@[simp] theorem State.modLink_pending (s : State) (f : Link → Link) :
    (s.modLink f).pending = s.pending := rfl

@[simp] theorem State.modLink_pos (s : State) (f : Link → Link) (q : PosId) :
    (s.modLink f).pos q = s.pos q := rfl

@[simp] theorem State.modLink_eng (s : State) (f : Link → Link) (d : EngineId) :
    (s.modLink f).eng d = s.eng d := rfl

/-! ### modTear -/

@[simp] theorem State.modTear_positions (s : State) (f : TearList → TearList) :
    (s.modTear f).positions = s.positions := rfl

@[simp] theorem State.modTear_depths (s : State) (f : TearList → TearList) :
    (s.modTear f).depths = s.depths := rfl

@[simp] theorem State.modTear_settings (s : State) (f : TearList → TearList) :
    (s.modTear f).settings = s.settings := rfl

@[simp] theorem State.modTear_tariff (s : State) (f : TearList → TearList) :
    (s.modTear f).tariff = s.tariff := rfl

@[simp] theorem State.modTear_engines (s : State) (f : TearList → TearList) :
    (s.modTear f).engines = s.engines := rfl

@[simp] theorem State.modTear_tear (s : State) (f : TearList → TearList) :
    (s.modTear f).tear = f s.tear := rfl

@[simp] theorem State.modTear_queue (s : State) (f : TearList → TearList) :
    (s.modTear f).queue = s.queue := rfl

@[simp] theorem State.modTear_acct (s : State) (f : TearList → TearList) :
    (s.modTear f).acct = s.acct := rfl

@[simp] theorem State.modTear_link (s : State) (f : TearList → TearList) :
    (s.modTear f).link = s.link := rfl

@[simp] theorem State.modTear_pending (s : State) (f : TearList → TearList) :
    (s.modTear f).pending = s.pending := rfl

@[simp] theorem State.modTear_pos (s : State) (f : TearList → TearList) (q : PosId) :
    (s.modTear f).pos q = s.pos q := rfl

@[simp] theorem State.modTear_eng (s : State) (f : TearList → TearList) (d : EngineId) :
    (s.modTear f).eng d = s.eng d := rfl

/-! ### modAcct -/

@[simp] theorem State.modAcct_positions (s : State) (f : Accounting → Accounting) :
    (s.modAcct f).positions = s.positions := rfl

@[simp] theorem State.modAcct_depths (s : State) (f : Accounting → Accounting) :
    (s.modAcct f).depths = s.depths := rfl

@[simp] theorem State.modAcct_settings (s : State) (f : Accounting → Accounting) :
    (s.modAcct f).settings = s.settings := rfl

@[simp] theorem State.modAcct_tariff (s : State) (f : Accounting → Accounting) :
    (s.modAcct f).tariff = s.tariff := rfl

@[simp] theorem State.modAcct_engines (s : State) (f : Accounting → Accounting) :
    (s.modAcct f).engines = s.engines := rfl

@[simp] theorem State.modAcct_tear (s : State) (f : Accounting → Accounting) :
    (s.modAcct f).tear = s.tear := rfl

@[simp] theorem State.modAcct_queue (s : State) (f : Accounting → Accounting) :
    (s.modAcct f).queue = s.queue := rfl

@[simp] theorem State.modAcct_acct (s : State) (f : Accounting → Accounting) :
    (s.modAcct f).acct = f s.acct := rfl

@[simp] theorem State.modAcct_link (s : State) (f : Accounting → Accounting) :
    (s.modAcct f).link = s.link := rfl

@[simp] theorem State.modAcct_pending (s : State) (f : Accounting → Accounting) :
    (s.modAcct f).pending = s.pending := rfl

@[simp] theorem State.modAcct_pos (s : State) (f : Accounting → Accounting) (q : PosId) :
    (s.modAcct f).pos q = s.pos q := rfl

@[simp] theorem State.modAcct_eng (s : State) (f : Accounting → Accounting) (d : EngineId) :
    (s.modAcct f).eng d = s.eng d := rfl

/-! ### modTariff -/

@[simp] theorem State.modTariff_positions (s : State) (f : TariffStore → TariffStore) :
    (s.modTariff f).positions = s.positions := rfl

@[simp] theorem State.modTariff_depths (s : State) (f : TariffStore → TariffStore) :
    (s.modTariff f).depths = s.depths := rfl

@[simp] theorem State.modTariff_settings (s : State) (f : TariffStore → TariffStore) :
    (s.modTariff f).settings = s.settings := rfl

@[simp] theorem State.modTariff_tariff (s : State) (f : TariffStore → TariffStore) :
    (s.modTariff f).tariff = f s.tariff := rfl

@[simp] theorem State.modTariff_engines (s : State) (f : TariffStore → TariffStore) :
    (s.modTariff f).engines = s.engines := rfl

@[simp] theorem State.modTariff_tear (s : State) (f : TariffStore → TariffStore) :
    (s.modTariff f).tear = s.tear := rfl

@[simp] theorem State.modTariff_queue (s : State) (f : TariffStore → TariffStore) :
    (s.modTariff f).queue = s.queue := rfl

@[simp] theorem State.modTariff_acct (s : State) (f : TariffStore → TariffStore) :
    (s.modTariff f).acct = s.acct := rfl

@[simp] theorem State.modTariff_link (s : State) (f : TariffStore → TariffStore) :
    (s.modTariff f).link = s.link := rfl

@[simp] theorem State.modTariff_pending (s : State) (f : TariffStore → TariffStore) :
    (s.modTariff f).pending = s.pending := rfl

@[simp] theorem State.modTariff_pos (s : State) (f : TariffStore → TariffStore) (q : PosId) :
    (s.modTariff f).pos q = s.pos q := rfl

@[simp] theorem State.modTariff_eng (s : State) (f : TariffStore → TariffStore) (d : EngineId) :
    (s.modTariff f).eng d = s.eng d := rfl

/-! ### modSettings -/

@[simp] theorem State.modSettings_positions (s : State) (f : Settings → Settings) :
    (s.modSettings f).positions = s.positions := rfl

@[simp] theorem State.modSettings_depths (s : State) (f : Settings → Settings) :
    (s.modSettings f).depths = s.depths := rfl

@[simp] theorem State.modSettings_settings (s : State) (f : Settings → Settings) :
    (s.modSettings f).settings = f s.settings := rfl

@[simp] theorem State.modSettings_tariff (s : State) (f : Settings → Settings) :
    (s.modSettings f).tariff = s.tariff := rfl

@[simp] theorem State.modSettings_engines (s : State) (f : Settings → Settings) :
    (s.modSettings f).engines = s.engines := rfl

@[simp] theorem State.modSettings_tear (s : State) (f : Settings → Settings) :
    (s.modSettings f).tear = s.tear := rfl

@[simp] theorem State.modSettings_queue (s : State) (f : Settings → Settings) :
    (s.modSettings f).queue = s.queue := rfl

@[simp] theorem State.modSettings_acct (s : State) (f : Settings → Settings) :
    (s.modSettings f).acct = s.acct := rfl

@[simp] theorem State.modSettings_link (s : State) (f : Settings → Settings) :
    (s.modSettings f).link = s.link := rfl

@[simp] theorem State.modSettings_pending (s : State) (f : Settings → Settings) :
    (s.modSettings f).pending = s.pending := rfl

@[simp] theorem State.modSettings_pos (s : State) (f : Settings → Settings) (q : PosId) :
    (s.modSettings f).pos q = s.pos q := rfl

@[simp] theorem State.modSettings_eng (s : State) (f : Settings → Settings) (d : EngineId) :
    (s.modSettings f).eng d = s.eng d := rfl

/-! ### modDepths -/

@[simp] theorem State.modDepths_positions (s : State) (f : Depths → Depths) :
    (s.modDepths f).positions = s.positions := rfl

@[simp] theorem State.modDepths_depths (s : State) (f : Depths → Depths) :
    (s.modDepths f).depths = f s.depths := rfl

@[simp] theorem State.modDepths_settings (s : State) (f : Depths → Depths) :
    (s.modDepths f).settings = s.settings := rfl

@[simp] theorem State.modDepths_tariff (s : State) (f : Depths → Depths) :
    (s.modDepths f).tariff = s.tariff := rfl

@[simp] theorem State.modDepths_engines (s : State) (f : Depths → Depths) :
    (s.modDepths f).engines = s.engines := rfl

@[simp] theorem State.modDepths_tear (s : State) (f : Depths → Depths) :
    (s.modDepths f).tear = s.tear := rfl

@[simp] theorem State.modDepths_queue (s : State) (f : Depths → Depths) :
    (s.modDepths f).queue = s.queue := rfl

@[simp] theorem State.modDepths_acct (s : State) (f : Depths → Depths) :
    (s.modDepths f).acct = s.acct := rfl

@[simp] theorem State.modDepths_link (s : State) (f : Depths → Depths) :
    (s.modDepths f).link = s.link := rfl

@[simp] theorem State.modDepths_pending (s : State) (f : Depths → Depths) :
    (s.modDepths f).pending = s.pending := rfl

@[simp] theorem State.modDepths_pos (s : State) (f : Depths → Depths) (q : PosId) :
    (s.modDepths f).pos q = s.pos q := rfl

@[simp] theorem State.modDepths_eng (s : State) (f : Depths → Depths) (d : EngineId) :
    (s.modDepths f).eng d = s.eng d := rfl

/-! ### modQueue -/

@[simp] theorem State.modQueue_positions (s : State) (f : RecordQueue → RecordQueue) :
    (s.modQueue f).positions = s.positions := rfl

@[simp] theorem State.modQueue_depths (s : State) (f : RecordQueue → RecordQueue) :
    (s.modQueue f).depths = s.depths := rfl

@[simp] theorem State.modQueue_settings (s : State) (f : RecordQueue → RecordQueue) :
    (s.modQueue f).settings = s.settings := rfl

@[simp] theorem State.modQueue_tariff (s : State) (f : RecordQueue → RecordQueue) :
    (s.modQueue f).tariff = s.tariff := rfl

@[simp] theorem State.modQueue_engines (s : State) (f : RecordQueue → RecordQueue) :
    (s.modQueue f).engines = s.engines := rfl

@[simp] theorem State.modQueue_tear (s : State) (f : RecordQueue → RecordQueue) :
    (s.modQueue f).tear = s.tear := rfl

@[simp] theorem State.modQueue_queue (s : State) (f : RecordQueue → RecordQueue) :
    (s.modQueue f).queue = f s.queue := rfl

@[simp] theorem State.modQueue_acct (s : State) (f : RecordQueue → RecordQueue) :
    (s.modQueue f).acct = s.acct := rfl

@[simp] theorem State.modQueue_link (s : State) (f : RecordQueue → RecordQueue) :
    (s.modQueue f).link = s.link := rfl

@[simp] theorem State.modQueue_pending (s : State) (f : RecordQueue → RecordQueue) :
    (s.modQueue f).pending = s.pending := rfl

@[simp] theorem State.modQueue_pos (s : State) (f : RecordQueue → RecordQueue) (q : PosId) :
    (s.modQueue f).pos q = s.pos q := rfl

@[simp] theorem State.modQueue_eng (s : State) (f : RecordQueue → RecordQueue) (d : EngineId) :
    (s.modQueue f).eng d = s.eng d := rfl

/-! ### modTotals -/

@[simp] theorem State.modTotals_positions (s : State) (f : Totals → Totals) :
    (s.modTotals f).positions = s.positions := rfl

@[simp] theorem State.modTotals_depths (s : State) (f : Totals → Totals) :
    (s.modTotals f).depths = s.depths := rfl

@[simp] theorem State.modTotals_settings (s : State) (f : Totals → Totals) :
    (s.modTotals f).settings = s.settings := rfl

@[simp] theorem State.modTotals_tariff (s : State) (f : Totals → Totals) :
    (s.modTotals f).tariff = s.tariff := rfl

@[simp] theorem State.modTotals_engines (s : State) (f : Totals → Totals) :
    (s.modTotals f).engines = s.engines := rfl

@[simp] theorem State.modTotals_tear (s : State) (f : Totals → Totals) :
    (s.modTotals f).tear = s.tear := rfl

@[simp] theorem State.modTotals_queue (s : State) (f : Totals → Totals) :
    (s.modTotals f).queue = s.queue := rfl

@[simp] theorem State.modTotals_acct (s : State) (f : Totals → Totals) :
    (s.modTotals f).acct = { s.acct with totals := f s.acct.totals } := rfl

@[simp] theorem State.modTotals_link (s : State) (f : Totals → Totals) :
    (s.modTotals f).link = s.link := rfl

@[simp] theorem State.modTotals_pending (s : State) (f : Totals → Totals) :
    (s.modTotals f).pending = s.pending := rfl

@[simp] theorem State.modTotals_pos (s : State) (f : Totals → Totals) (q : PosId) :
    (s.modTotals f).pos q = s.pos q := rfl

@[simp] theorem State.modTotals_eng (s : State) (f : Totals → Totals) (d : EngineId) :
    (s.modTotals f).eng d = s.eng d := rfl

/-! ### modGlobal -/

@[simp] theorem State.modGlobal_positions (s : State) (f : GlobalCounts → GlobalCounts) :
    (s.modGlobal f).positions = s.positions := rfl

@[simp] theorem State.modGlobal_depths (s : State) (f : GlobalCounts → GlobalCounts) :
    (s.modGlobal f).depths = s.depths := rfl

@[simp] theorem State.modGlobal_settings (s : State) (f : GlobalCounts → GlobalCounts) :
    (s.modGlobal f).settings = s.settings := rfl

@[simp] theorem State.modGlobal_tariff (s : State) (f : GlobalCounts → GlobalCounts) :
    (s.modGlobal f).tariff = s.tariff := rfl

@[simp] theorem State.modGlobal_engines (s : State) (f : GlobalCounts → GlobalCounts) :
    (s.modGlobal f).engines = s.engines := rfl

@[simp] theorem State.modGlobal_tear (s : State) (f : GlobalCounts → GlobalCounts) :
    (s.modGlobal f).tear = s.tear := rfl

@[simp] theorem State.modGlobal_queue (s : State) (f : GlobalCounts → GlobalCounts) :
    (s.modGlobal f).queue = s.queue := rfl

@[simp] theorem State.modGlobal_acct (s : State) (f : GlobalCounts → GlobalCounts) :
    (s.modGlobal f).acct = { s.acct with global := f s.acct.global } := rfl

@[simp] theorem State.modGlobal_link (s : State) (f : GlobalCounts → GlobalCounts) :
    (s.modGlobal f).link = s.link := rfl

@[simp] theorem State.modGlobal_pending (s : State) (f : GlobalCounts → GlobalCounts) :
    (s.modGlobal f).pending = s.pending := rfl

@[simp] theorem State.modGlobal_pos (s : State) (f : GlobalCounts → GlobalCounts) (q : PosId) :
    (s.modGlobal f).pos q = s.pos q := rfl

@[simp] theorem State.modGlobal_eng (s : State) (f : GlobalCounts → GlobalCounts) (d : EngineId) :
    (s.modGlobal f).eng d = s.eng d := rfl

/-! ### modCounts -/

@[simp] theorem State.modCounts_positions (s : State) (e : EngineId) (f : EngineCounts → EngineCounts) :
    (s.modCounts e f).positions = s.positions := rfl

@[simp] theorem State.modCounts_depths (s : State) (e : EngineId) (f : EngineCounts → EngineCounts) :
    (s.modCounts e f).depths = s.depths := rfl

@[simp] theorem State.modCounts_settings (s : State) (e : EngineId) (f : EngineCounts → EngineCounts) :
    (s.modCounts e f).settings = s.settings := rfl

@[simp] theorem State.modCounts_tariff (s : State) (e : EngineId) (f : EngineCounts → EngineCounts) :
    (s.modCounts e f).tariff = s.tariff := rfl

@[simp] theorem State.modCounts_engines (s : State) (e : EngineId) (f : EngineCounts → EngineCounts) :
    (s.modCounts e f).engines = s.engines := rfl

@[simp] theorem State.modCounts_tear (s : State) (e : EngineId) (f : EngineCounts → EngineCounts) :
    (s.modCounts e f).tear = s.tear := rfl

@[simp] theorem State.modCounts_queue (s : State) (e : EngineId) (f : EngineCounts → EngineCounts) :
    (s.modCounts e f).queue = s.queue := rfl

@[simp] theorem State.modCounts_acct (s : State) (e : EngineId) (f : EngineCounts → EngineCounts) :
    (s.modCounts e f).acct = { s.acct with engines := s.acct.engines.set e.val (f s.acct.engines[e.val]) } := rfl

@[simp] theorem State.modCounts_link (s : State) (e : EngineId) (f : EngineCounts → EngineCounts) :
    (s.modCounts e f).link = s.link := rfl

@[simp] theorem State.modCounts_pending (s : State) (e : EngineId) (f : EngineCounts → EngineCounts) :
    (s.modCounts e f).pending = s.pending := rfl

@[simp] theorem State.modCounts_pos (s : State) (e : EngineId) (f : EngineCounts → EngineCounts) (q : PosId) :
    (s.modCounts e f).pos q = s.pos q := rfl

@[simp] theorem State.modCounts_eng (s : State) (e : EngineId) (f : EngineCounts → EngineCounts) (d : EngineId) :
    (s.modCounts e f).eng d = s.eng d := rfl

/-! ### reportCharged -/

@[simp] theorem State.reportCharged_positions (s : State) (n : Nat) :
    (s.reportCharged n).positions = s.positions := rfl

@[simp] theorem State.reportCharged_depths (s : State) (n : Nat) :
    (s.reportCharged n).depths = s.depths := rfl

@[simp] theorem State.reportCharged_settings (s : State) (n : Nat) :
    (s.reportCharged n).settings = s.settings := rfl

@[simp] theorem State.reportCharged_tariff (s : State) (n : Nat) :
    (s.reportCharged n).tariff = s.tariff := rfl

@[simp] theorem State.reportCharged_engines (s : State) (n : Nat) :
    (s.reportCharged n).engines = s.engines := rfl

@[simp] theorem State.reportCharged_tear (s : State) (n : Nat) :
    (s.reportCharged n).tear = s.tear := rfl

@[simp] theorem State.reportCharged_queue (s : State) (n : Nat) :
    (s.reportCharged n).queue = s.queue := rfl

@[simp] theorem State.reportCharged_acct (s : State) (n : Nat) :
    (s.reportCharged n).acct = { s.acct with totals := { s.acct.totals with charged := advance s.acct.totals.charged n } } := rfl

@[simp] theorem State.reportCharged_link (s : State) (n : Nat) :
    (s.reportCharged n).link = s.link := rfl

@[simp] theorem State.reportCharged_pending (s : State) (n : Nat) :
    (s.reportCharged n).pending = s.pending := rfl

@[simp] theorem State.reportCharged_pos (s : State) (n : Nat) (q : PosId) :
    (s.reportCharged n).pos q = s.pos q := rfl

@[simp] theorem State.reportCharged_eng (s : State) (n : Nat) (d : EngineId) :
    (s.reportCharged n).eng d = s.eng d := rfl

/-! ### reportBurned -/

@[simp] theorem State.reportBurned_positions (s : State) (n : Nat) :
    (s.reportBurned n).positions = s.positions := rfl

@[simp] theorem State.reportBurned_depths (s : State) (n : Nat) :
    (s.reportBurned n).depths = s.depths := rfl

@[simp] theorem State.reportBurned_settings (s : State) (n : Nat) :
    (s.reportBurned n).settings = s.settings := rfl

@[simp] theorem State.reportBurned_tariff (s : State) (n : Nat) :
    (s.reportBurned n).tariff = s.tariff := rfl

@[simp] theorem State.reportBurned_engines (s : State) (n : Nat) :
    (s.reportBurned n).engines = s.engines := rfl

@[simp] theorem State.reportBurned_tear (s : State) (n : Nat) :
    (s.reportBurned n).tear = s.tear := rfl

@[simp] theorem State.reportBurned_queue (s : State) (n : Nat) :
    (s.reportBurned n).queue = s.queue := rfl

@[simp] theorem State.reportBurned_acct (s : State) (n : Nat) :
    (s.reportBurned n).acct = { s.acct with totals := { s.acct.totals with burned := advance s.acct.totals.burned n } } := rfl

@[simp] theorem State.reportBurned_link (s : State) (n : Nat) :
    (s.reportBurned n).link = s.link := rfl

@[simp] theorem State.reportBurned_pending (s : State) (n : Nat) :
    (s.reportBurned n).pending = s.pending := rfl

@[simp] theorem State.reportBurned_pos (s : State) (n : Nat) (q : PosId) :
    (s.reportBurned n).pos q = s.pos q := rfl

@[simp] theorem State.reportBurned_eng (s : State) (n : Nat) (d : EngineId) :
    (s.reportBurned n).eng d = s.eng d := rfl

/-! ### reportWrittenOff -/

@[simp] theorem State.reportWrittenOff_positions (s : State) (n : Nat) :
    (s.reportWrittenOff n).positions = s.positions := rfl

@[simp] theorem State.reportWrittenOff_depths (s : State) (n : Nat) :
    (s.reportWrittenOff n).depths = s.depths := rfl

@[simp] theorem State.reportWrittenOff_settings (s : State) (n : Nat) :
    (s.reportWrittenOff n).settings = s.settings := rfl

@[simp] theorem State.reportWrittenOff_tariff (s : State) (n : Nat) :
    (s.reportWrittenOff n).tariff = s.tariff := rfl

@[simp] theorem State.reportWrittenOff_engines (s : State) (n : Nat) :
    (s.reportWrittenOff n).engines = s.engines := rfl

@[simp] theorem State.reportWrittenOff_tear (s : State) (n : Nat) :
    (s.reportWrittenOff n).tear = s.tear := rfl

@[simp] theorem State.reportWrittenOff_queue (s : State) (n : Nat) :
    (s.reportWrittenOff n).queue = s.queue := rfl

@[simp] theorem State.reportWrittenOff_acct (s : State) (n : Nat) :
    (s.reportWrittenOff n).acct = { s.acct with totals := { s.acct.totals with writtenOff := advance s.acct.totals.writtenOff n } } := rfl

@[simp] theorem State.reportWrittenOff_link (s : State) (n : Nat) :
    (s.reportWrittenOff n).link = s.link := rfl

@[simp] theorem State.reportWrittenOff_pending (s : State) (n : Nat) :
    (s.reportWrittenOff n).pending = s.pending := rfl

@[simp] theorem State.reportWrittenOff_pos (s : State) (n : Nat) (q : PosId) :
    (s.reportWrittenOff n).pos q = s.pos q := rfl

@[simp] theorem State.reportWrittenOff_eng (s : State) (n : Nat) (d : EngineId) :
    (s.reportWrittenOff n).eng d = s.eng d := rfl

/-! ### answered -/

@[simp] theorem State.answered_positions (s : State) (c : Instr) (r : Reply) :
    (s.answered c r).positions = s.positions := rfl

@[simp] theorem State.answered_depths (s : State) (c : Instr) (r : Reply) :
    (s.answered c r).depths = s.depths := rfl

@[simp] theorem State.answered_settings (s : State) (c : Instr) (r : Reply) :
    (s.answered c r).settings = s.settings := rfl

@[simp] theorem State.answered_tariff (s : State) (c : Instr) (r : Reply) :
    (s.answered c r).tariff = s.tariff := rfl

@[simp] theorem State.answered_engines (s : State) (c : Instr) (r : Reply) :
    (s.answered c r).engines = s.engines := rfl

@[simp] theorem State.answered_tear (s : State) (c : Instr) (r : Reply) :
    (s.answered c r).tear = s.tear := rfl

@[simp] theorem State.answered_queue (s : State) (c : Instr) (r : Reply) :
    (s.answered c r).queue = s.queue := rfl

@[simp] theorem State.answered_acct (s : State) (c : Instr) (r : Reply) :
    (s.answered c r).acct = s.acct := rfl

@[simp] theorem State.answered_link (s : State) (c : Instr) (r : Reply) :
    (s.answered c r).link = { s.link with handed := none, answerPending := true, response := some (responseFrame (requestType c) r) } := rfl

@[simp] theorem State.answered_pending (s : State) (c : Instr) (r : Reply) :
    (s.answered c r).pending = s.pending := rfl

@[simp] theorem State.answered_pos (s : State) (c : Instr) (r : Reply) (q : PosId) :
    (s.answered c r).pos q = s.pos q := rfl

@[simp] theorem State.answered_eng (s : State) (c : Instr) (r : Reply) (d : EngineId) :
    (s.answered c r).eng d = s.eng d := rfl

/-! ### Reading one position and one engine after an update -/

@[simp] theorem State.modPos_pos_self (s : State) (p : PosId) (f : Position → Position) :
    (s.modPos p f).pos p = f (s.pos p) := by
  simp [State.pos]

theorem State.modPos_pos_ne (s : State) {p q : PosId} (h : q ≠ p) (f : Position → Position) :
    (s.modPos p f).pos q = s.pos q := by
  have : p.val ≠ q.val := fun hv => h (Fin.ext hv.symm)
  simp [State.pos, this]

theorem State.modPos_pos (s : State) (p q : PosId) (f : Position → Position) :
    (s.modPos p f).pos q = if q = p then f (s.pos p) else s.pos q := by
  split
  · next h => subst h; exact s.modPos_pos_self q f
  · next h => exact s.modPos_pos_ne h f

@[simp] theorem State.mapPos_pos (s : State) (f : PosId → Position → Position) (q : PosId) :
    (s.mapPos f).pos q = f q (s.pos q) := by
  simp [State.pos]

@[simp] theorem State.modEng_eng_self (s : State) (e : EngineId) (f : Engine → Engine) :
    (s.modEng e f).eng e = f (s.eng e) := by
  simp [State.eng]

theorem State.modEng_eng_ne (s : State) {e d : EngineId} (h : d ≠ e) (f : Engine → Engine) :
    (s.modEng e f).eng d = s.eng d := by
  have : e.val ≠ d.val := fun hv => h (Fin.ext hv.symm)
  simp [State.eng, this]

theorem State.modEng_eng (s : State) (e d : EngineId) (f : Engine → Engine) :
    (s.modEng e f).eng d = if d = e then f (s.eng e) else s.eng d := by
  split
  · next h => subst h; exact s.modEng_eng_self d f
  · next h => exact s.modEng_eng_ne h f

@[simp] theorem State.mapEng_eng (s : State) (f : EngineId → Engine → Engine) (d : EngineId) :
    (s.mapEng f).eng d = f d (s.eng d) := by
  simp [State.eng]

/-- A position of a state written field by field. -/
theorem State.mk_pos (ps : Vector Position 48) (d : Depths) (st : Settings) (tf : TariffStore) (es : Vector Engine 5)
    (tr : TearList) (rq : RecordQueue) (a : Accounting) (l : Link) (pe : List Instr) (q : PosId) :
    (State.mk ps d st tf es tr rq a l pe).pos q = ps[q.val] := rfl

/-- An engine of a state written field by field. -/
theorem State.mk_eng (ps : Vector Position 48) (d : Depths) (st : Settings) (tf : TariffStore) (es : Vector Engine 5)
    (tr : TearList) (rq : RecordQueue) (a : Accounting) (l : Link) (pe : List Instr) (e : EngineId) :
    (State.mk ps d st tf es tr rq a l pe).eng e = es[e.val] := rfl

/-- The vector of positions read at a position. -/
theorem State.positions_getElem (s : State) (q : PosId) : s.positions[q.val] = s.pos q := rfl

/-- The vector of engines read at an engine. -/
theorem State.engines_getElem (s : State) (e : EngineId) : s.engines[e.val] = s.eng e := rfl

/-- States with the same positions have the same position at each number. -/
theorem State.pos_congr {s t : State} (h : t.positions = s.positions) (q : PosId) : t.pos q = s.pos q := by
  unfold State.pos; rw [h]

/-- States with the same engines have the same engine at each number. -/
theorem State.eng_congr {s t : State} (h : t.engines = s.engines) (e : EngineId) : t.eng e = s.eng e := by
  unfold State.eng; rw [h]

/-- Two states are equal when their positions, their engines and their other fields are. -/
theorem State.ext_views {s t : State} (hp : ∀ p, s.pos p = t.pos p) (he : ∀ e, s.eng e = t.eng e)
    (hd : s.depths = t.depths) (hs : s.settings = t.settings) (ht : s.tariff = t.tariff) (hr : s.tear = t.tear)
    (hq : s.queue = t.queue) (ha : s.acct = t.acct) (hl : s.link = t.link) (hn : s.pending = t.pending) : s = t := by
  have h1 : s.positions = t.positions := Vector.ext fun i hi => hp ⟨i, hi⟩
  have h2 : s.engines = t.engines := Vector.ext fun i hi => he ⟨i, hi⟩
  cases s; cases t; simp_all

end Sys2Proof.Machine
end

