-- ==== Sys2Proof/Laws/Grants.lean ====
section
/-!
SUPPORT. What the end of an event may do: derivations and grants change the card operations of positions, what a grant
moves at an engine, and the grant counts, and nothing else.
-/

namespace Sys2Proof.Machine

/-! ### The relations -/

theorem Position.SameButOp.refl (x : Position) : x.SameButOp x := rfl

theorem Position.SameButOp.trans {x y z : Position} (h1 : x.SameButOp y) (h2 : y.SameButOp z) : x.SameButOp z := by
  unfold SameButOp at *; rw [h2, h1]

theorem Engine.SameButGrant.refl (g : Engine) : g.SameButGrant g := rfl

theorem Engine.SameButGrant.trans {g h k : Engine} (h1 : g.SameButGrant h) (h2 : h.SameButGrant k) :
    g.SameButGrant k := by
  unfold SameButGrant at *; rw [h2, h1]

theorem EngineCounts.SameButGrants.refl (c : EngineCounts) : c.SameButGrants c := rfl

theorem EngineCounts.SameButGrants.trans {c d e : EngineCounts} (h1 : c.SameButGrants d) (h2 : d.SameButGrants e) :
    c.SameButGrants e := by
  unfold SameButGrants at *; rw [h2, h1]

theorem State.UpToGrants.refl (s : State) : s.UpToGrants s :=
  ⟨fun _ => rfl, fun _ => rfl, fun _ => rfl, rfl⟩

theorem State.UpToGrants.trans {s t u : State} (h1 : s.UpToGrants t) (h2 : t.UpToGrants u) : s.UpToGrants u := by
  obtain ⟨hp1, he1, hc1, hs1⟩ := h1
  obtain ⟨hp2, he2, hc2, hs2⟩ := h2
  refine ⟨fun q => (hp1 q).trans (hp2 q), fun e => (he1 e).trans (he2 e), fun e => (hc1 e).trans (hc2 e), ?_⟩
  rw [hs2, hs1]

/-- Equal states are equal up to grants. -/
theorem State.UpToGrants.of_eq {s t : State} (h : s = t) : s.UpToGrants t := h ▸ .refl s

/-! ### What it leaves of each field -/

section Fields
variable {s t : State} (h : s.UpToGrants t)
include h

theorem State.UpToGrants.pos (q : PosId) : (s.pos q).SameButOp (t.pos q) := h.1 q
theorem State.UpToGrants.eng (e : EngineId) : (s.eng e).SameButGrant (t.eng e) := h.2.1 e
theorem State.UpToGrants.depths : t.depths = s.depths := by rw [h.2.2.2]
theorem State.UpToGrants.settings : t.settings = s.settings := by rw [h.2.2.2]
theorem State.UpToGrants.tariff : t.tariff = s.tariff := by rw [h.2.2.2]
theorem State.UpToGrants.tear : t.tear = s.tear := by rw [h.2.2.2]
theorem State.UpToGrants.queue : t.queue = s.queue := by rw [h.2.2.2]
theorem State.UpToGrants.link : t.link = s.link := by rw [h.2.2.2]
theorem State.UpToGrants.pending : t.pending = s.pending := by rw [h.2.2.2]
theorem State.UpToGrants.totals : t.acct.totals = s.acct.totals := by rw [h.2.2.2]
theorem State.UpToGrants.global : t.acct.global = s.acct.global := by rw [h.2.2.2]
theorem State.UpToGrants.snapshot : t.acct.snapshot = s.acct.snapshot := by rw [h.2.2.2]
theorem State.UpToGrants.interval : t.acct.interval = s.acct.interval := by rw [h.2.2.2]
theorem State.UpToGrants.intervalLeft : t.acct.intervalLeft = s.acct.intervalLeft := by rw [h.2.2.2]
theorem State.UpToGrants.intervalDue : t.acct.intervalDue = s.acct.intervalDue := by rw [h.2.2.2]
theorem State.UpToGrants.lane (e : EngineId) : (t.eng e).lane = (s.eng e).lane := by rw [h.2.1 e]

/-- Composing the answer keeps the relation. -/
theorem State.UpToGrants.answered (c : Instr) (r : Reply) : (s.answered c r).UpToGrants (t.answered c r) := by
  obtain ⟨hp, he, hc, hs⟩ := h
  exact ⟨hp, he, hc, (congrArg (fun u : State => u.answered c r) hs).trans rfl⟩

end Fields

/-! ### The operations that keep it -/

/-- Changing one position by a function that touches only its operation. -/
theorem State.upToGrants_modPos (s : State) (p : PosId) (f : Position → Position)
    (hf : (s.pos p).SameButOp (f (s.pos p))) : s.UpToGrants (s.modPos p f) := by
  refine ⟨fun q => ?_, fun _ => rfl, fun _ => rfl, rfl⟩
  rw [State.modPos_pos]
  split
  · next h => subst h; exact hf
  · exact .refl _

/-- Changing one engine by a function that touches only what a grant moves. -/
theorem State.upToGrants_modEng (s : State) (e : EngineId) (f : Engine → Engine)
    (hf : (s.eng e).SameButGrant (f (s.eng e))) : s.UpToGrants (s.modEng e f) := by
  refine ⟨fun _ => rfl, fun d => ?_, fun _ => rfl, rfl⟩
  rw [State.modEng_eng]
  split
  · next h => subst h; exact hf
  · exact .refl _

/-- Counting a grant. -/
theorem State.upToGrants_modCounts (s : State) (e : EngineId) (f : EngineCounts → EngineCounts)
    (hf : (s.acct.engines[e.val]).SameButGrants (f s.acct.engines[e.val])) : s.UpToGrants (s.modCounts e f) := by
  refine ⟨fun _ => rfl, fun _ => rfl, fun d => ?_, rfl⟩
  rw [State.modCounts_acct]
  by_cases h : e.val = d.val
  · have : e = d := Fin.ext h
    subst this; simpa using hf
  · simp only [Vector.getElem_set_ne _ _ h]; exact .refl _

/-- A derivation touches the pending operation alone. -/
theorem State.derive_upToGrants (s : State) (p : PosId) : s.UpToGrants (s.derive p) := by
  refine s.upToGrants_modPos p _ ?_
  unfold Position.derive Position.SameButOp
  split <;> rfl

/-- A grant. -/
theorem State.grant_upToGrants (s : State) (e : EngineId) (p : PosId) (op : CardOp) (pointer burst : Nat) :
    s.UpToGrants (s.grant e p op pointer burst) := by
  unfold State.grant
  refine ((s.upToGrants_modPos p _ ?_).trans (State.upToGrants_modEng _ e _ ?_)).trans
    (State.upToGrants_modCounts _ e _ ?_) <;> rfl

/-- An arbitration. -/
theorem State.arbitrate_upToGrants (s : State) (e : EngineId) : s.UpToGrants (s.arbitrate e) := by
  unfold State.arbitrate
  split
  · split
    · exact .refl s
    · split
      · exact .refl s
      · exact s.grant_upToGrants ..
  · exact .refl s

/-- The arbitrations of a list of engines. -/
theorem State.arbitrateAll_upToGrants (es : List EngineId) (s : State) :
    s.UpToGrants (es.foldl State.arbitrate s) := by
  induction es generalizing s with
  | nil => exact .refl s
  | cons e es ih => exact (s.arbitrate_upToGrants e).trans (ih _)

/-- The arbitrations at the end of an event. -/
theorem State.serve_upToGrants (s : State) : s.UpToGrants s.serve := s.arbitrateAll_upToGrants allEngines

/-- What the engine does at the end of a completion. -/
theorem State.burstOn_upToGrants (s : State) (e : EngineId) (p : PosId) (o : OpOutcome) :
    s.UpToGrants (s.burstOn e p o) := by
  unfold State.burstOn
  split
  · split
    · exact s.grant_upToGrants ..
    · exact s.upToGrants_modEng e _ rfl
  all_goals exact s.upToGrants_modEng e _ rfl

/-- The end of an event at a position, after its tests. -/
theorem State.conclude_upToGrants (s : State) (p : PosId) : (s.settle p).UpToGrants (s.conclude p) :=
  ((s.settle p).derive_upToGrants p).trans (State.serve_upToGrants _)

/-- A position in a state other than CLEARING and RECOVERING has nothing to settle. -/
theorem State.settle_of_other (s : State) (p : PosId) (h1 : (s.pos p).state ≠ .clearing)
    (h2 : (s.pos p).state ≠ .recovering) : s.settle p = s := by
  unfold State.settle Position.clearingDone Position.recoveryDone
  simp [h1, h2]

/-- A position in CLEARING that has not met the three conditions of R35 stays there. -/
theorem State.settle_of_clearing (s : State) (p : PosId) (h : (s.pos p).state = .clearing)
    (hd : (s.pos p).forcedClear = true ∨ (s.pos p).debt ≠ 0 ∨ (s.pos p).doubt ≠ none ∨ (s.pos p).cardLost = true ∨
      (s.pos p).inFlight ≠ none) : s.settle p = s := by
  have hdone : (s.pos p).clearingDone = false := by
    unfold Position.clearingDone
    rcases hd with h' | h' | h' | h' | h'
    · simp [h']
    · simp [h']
    · cases hx : (s.pos p).doubt <;> simp_all
    · simp [h']
    · cases hx : (s.pos p).inFlight <;> simp_all
  unfold State.settle
  simp [hdone, Position.recoveryDone, h]

/-- A recovery with debt or doubt left goes on. -/
theorem State.settle_of_recovering (s : State) (p : PosId) (h : (s.pos p).state = .recovering)
    (hd : (s.pos p).debt ≠ 0 ∨ (s.pos p).doubt ≠ none) : s.settle p = s := by
  have hdone : (s.pos p).recoveryDone = false := by
    unfold Position.recoveryDone
    rcases hd with h' | h'
    · simp [h']
    · cases hx : (s.pos p).doubt <;> simp_all
  unfold State.settle
  simp [hdone, Position.clearingDone, h]

end Sys2Proof.Machine
end

