-- ==== Sys2Proof/Laws/Link.lean ====
section
/-!
SUPPORT. The station link: when an owner takes a request, and what its answer leaves.
-/

namespace Sys2Proof.Machine

/-- A request its owner takes is answered with the owner's result. -/
theorem State.request_of_takes {s : State} {c : Instr} (h : s.Takes c) (owner : State → State × Reply) :
    s.request c owner = (owner s).1.answered c (owner s).2 := by
  unfold State.request State.respond
  rcases h with h | h <;> simp [h]

/-- A request that comes while another answer is pending is discarded. -/
theorem State.request_of_overrun {s : State} {c : Instr} (h1 : s.link.answerPending = true)
    (h2 : s.link.handed ≠ some c) (owner : State → State × Reply) : s.request c owner = s.discardFrame := by
  unfold State.request
  simp [h1, h2]

/-- Everything a discard does. -/
theorem State.discardFrame_eq (s : State) :
    s.discardFrame =
      { s with
        acct := { s.acct with global :=
          { s.acct.global with discarded := min 65535 (s.acct.global.discarded + 1) } }
        link := { s.link with receiver := .hunting, linkError := true } } := rfl

/-! ### Operand forms -/

@[simp] theorem positionOf_posByte (p : PosId) : positionOf (posByte p) = some p := by
  have h : (posByte p).toNat = p.val := by
    simp only [posByte, BitVec.toNat_ofNat]; omega
  unfold positionOf
  rw [dif_pos (by omega)]
  simp [h]

@[simp] theorem engineOfByte_engByte (e : EngineId) : engineOfByte (engByte e) = some e := by
  have h : (engByte e).toNat = e.val := by
    simp only [engByte, BitVec.toNat_ofNat]; omega
  unfold engineOfByte
  rw [dif_pos (by omega)]
  simp [h]

theorem positionOf_eq_none {b : Byte} (h : 48 ≤ b.toNat) : positionOf b = none := by
  unfold positionOf; rw [dif_neg (by omega)]

theorem engineOfByte_eq_none {b : Byte} (h : 4 < b.toNat) : engineOfByte b = none := by
  unfold engineOfByte; rw [dif_neg (by omega)]

@[simp] theorem classOf_ofNat (c : Fin 16) : classOf (BitVec.ofNat 8 c.val) = some c := by
  have h : (BitVec.ofNat 8 c.val).toNat = c.val := by simp only [BitVec.toNat_ofNat]; omega
  unfold classOf
  rw [dif_pos (by omega)]
  simp [h]

theorem classOf_eq_none {b : Byte} (h : 16 ≤ b.toNat) : classOf b = none := by
  unfold classOf; rw [dif_neg (by omega)]

@[simp] theorem bandOf_ofNat (n : Fin 4) : bandOf (BitVec.ofNat 8 n.val) = some n := by
  have h : (BitVec.ofNat 8 n.val).toNat = n.val := by simp only [BitVec.toNat_ofNat]; omega
  unfold bandOf
  rw [dif_pos (by omega)]
  simp [h]

theorem bandOf_eq_none {b : Byte} (h : 3 < b.toNat) : bandOf b = none := by
  unfold bandOf; rw [dif_neg (by omega)]

@[simp] theorem rateOf_ofNat (r : Fin 5) : rateOf (BitVec.ofNat 8 r.val) = some r := by
  have h : (BitVec.ofNat 8 r.val).toNat = r.val := by simp only [BitVec.toNat_ofNat]; omega
  unfold rateOf
  rw [dif_pos (by omega)]
  simp [h]

theorem rateOf_eq_none {b : Byte} (h : 4 < b.toNat) : rateOf b = none := by
  unfold rateOf; rw [dif_neg (by omega)]

@[simp] theorem markOf_bit (m : Bool) : markOf (if m then 1 else 0) = some m := by cases m <;> rfl

theorem markOf_eq_none {b : Byte} (h : 1 < b.toNat) : markOf b = none := by
  unfold markOf
  have h0 : b ≠ 0 := by rintro rfl; simp at h
  have h1 : b ≠ 1 := by rintro rfl; simp at h
  rw [if_neg h0, if_neg h1]

end Sys2Proof.Machine
end

