-- ==== Sys2Proof/Laws/Calls.lean ====
section
/-!
SUPPORT. Changes of one position composed, the samples that complete a run, the entries into states, and the enders.
-/

namespace Sys2Proof.Machine

/-! ### Changes of one position -/

/-- Two changes of one position are one. -/
theorem State.modPos_modPos (s : State) (p : PosId) (f g : Position → Position) :
    (s.modPos p f).modPos p g = s.modPos p fun x => g (f x) := by
  have h : (s.modPos p f).pos p = f (s.pos p) := s.modPos_pos_self p f
  unfold State.modPos at h ⊢
  rw [h]
  simp

/-- Only the value at the position counts. -/
theorem State.modPos_congr {s : State} {p : PosId} {f g : Position → Position} (h : f (s.pos p) = g (s.pos p)) :
    s.modPos p f = s.modPos p g := by
  unfold State.modPos; rw [h]

/-- A change that leaves the position as it is leaves the state as it is. -/
theorem State.modPos_eq_self {s : State} {p : PosId} {f : Position → Position} (h : f (s.pos p) = s.pos p) :
    s.modPos p f = s := by
  apply State.ext_views <;> try (intros; rfl)
  intro q
  rw [State.modPos_pos]
  split
  · next hq => subst hq; exact h
  · rfl

/-- A change that leaves every position as it is leaves the state as it is. -/
theorem State.mapPos_eq_self {s : State} {f : PosId → Position → Position} (h : ∀ q, f q (s.pos q) = s.pos q) :
    s.mapPos f = s := by
  have hv : Vector.ofFn (fun p => f p (s.pos p)) = s.positions := Vector.ext fun i hi => by
    simpa [State.pos] using h ⟨i, hi⟩
  unfold State.mapPos
  rw [hv]

/-- An event at a position that has nothing to settle ends with derivations and grants alone. -/
theorem State.conclude_of_settled {s : State} {p : PosId} (h : s.settle p = s) : s.UpToGrants (s.conclude p) := by
  have := s.conclude_upToGrants p
  rwa [h] at this

/-! ### Samples -/

/-- A sample that completes its run is accepted (R3). -/
theorem Input.sample_of_completes {α : Type} [DecidableEq α] {depth : Nat} {v : α} {i : Input α}
    (h : Input.Completes depth v i) : i.sample depth v = (.acceptedAt v, true) := by
  obtain ⟨h1, h2, h3⟩ := h
  unfold Input.sample
  simp [h1, h2, h3, Input.acceptedAt]

/-- A sample moves its input as R3 says. -/
theorem Input.sample_sampled {α : Type} [DecidableEq α] (depth : Nat) (v : α) (i : Input α) :
    Input.Sampled depth v i (i.sample depth v).1 := by
  refine ⟨fun h => ?_, fun h1 h2 => ⟨fun h => ?_, fun h => ?_⟩, fun h1 h2 => ⟨fun h => ?_, fun h => ?_⟩⟩ <;>
    unfold Input.sample
  · simp [h]
  · simp [h1, h2, show ¬ depth ≤ 1 by omega]
  · simp [h1, h2, h]
  · simp [h1, h2, show ¬ depth ≤ i.run + 1 by omega]
  · simp [h1, h2, h]

/-! ### Entries into states -/

/-- Entry into a state in which no output is on and no unit timer runs. -/
theorem Position.enter_eq_rested {st : PosState} (h1 : st.inCall = false) (h2 : st.metered = false) (x : Position) :
    x.enter st = x.rested st := by
  unfold Position.enter Position.rested OneShot.stop
  rw [h1, h2]

/-- Arrival in BLOCKED (R39). -/
theorem Position.arriveBlocked_eq (x : Position) :
    x.arriveBlocked = { (x.cardless.rested .blocked) with blockPending := false } := by
  unfold Position.arriveBlocked
  rw [Position.enter_eq_rested rfl rfl]
  rfl

/-- Arrival in VACANT (R36, R39, R40). -/
theorem Position.arriveVacant_eq (x : Position) : x.arriveVacant = x.vacated := by
  unfold Position.arriveVacant Position.vacated
  by_cases hb : x.blockPending = true
  · rw [if_pos hb, if_pos hb, Position.arriveBlocked_eq]
  · rw [if_neg hb, if_neg hb]
    change (if (x.present && decide (x.profile = .card)) = true then _ else _) = _
    simp only [Position.present, Bool.and_eq_true, decide_eq_true_eq]
    split
    · unfold Position.startReading
      rw [Position.enter_eq_rested rfl rfl, Position.enter_eq_rested rfl rfl]
      rfl
    · rw [Position.enter_eq_rested rfl rfl]
      rfl

/-- A position leaves RECOVERING or a settled recovery: its card owes nothing more (R37, R126). -/
theorem Position.leaveWait_eq (x : Position) : x.leaveWait = x.cleared := by
  unfold Position.leaveWait Position.cleared Position.arriveRefused Position.arriveReadyUnlisted
  rw [Position.arriveBlocked_eq]
  by_cases hb : x.blockPending = true
  · simp only [hb, if_true, ite_self]
  · rw [if_neg hb, if_neg hb, if_neg hb, Position.enter_eq_rested rfl rfl, Position.enter_eq_rested rfl rfl]
    rfl

/-- The positions waiting for an entry that has left the list (R126). -/
theorem State.releaseWaiters_eq (s : State) (k : CardKey) :
    s.releaseWaiters k = s.mapPos fun _ x => x.released k := by
  unfold State.releaseWaiters
  congr 1
  funext _ x
  unfold Position.released Position.waiting
  rw [Position.leaveWait_eq]
  by_cases h : x.state = .recovering ∧ x.reservation = false ∧ x.key = some k
  · simp [h]
  · rw [if_neg h, if_neg (by simpa [and_assoc] using h)]

/-- The record of a call is written in its reservation (R36, R136, R140). -/
theorem State.closeCall_eq {s : State} {p : PosId} {c : Call} {why : EndCause} (h1 : (s.pos p).call = some c)
    (h2 : c.endCause = some why) :
    s.closeCall p =
      (s.recorded (c.written p (s.pos p).key s.queue.nextSequence why)).modPos p fun x =>
        { x with call := none, reservation := false } := by
  have hr : c.record p (s.pos p).key s.queue.nextSequence = c.written p (s.pos p).key s.queue.nextSequence why := by
    unfold Call.record Call.written Call.recorded
    cases hk : c.kind <;> simp [h2, Units.zero]
  unfold State.closeCall State.writeRecord State.recorded
  rw [h1, ← hr]
  rfl

/-- The record of a recovery is written in its reservation (R37, R136, R140). -/
theorem State.closeRecovery_eq {s : State} {p : PosId} {r : Recovery} (h : (s.pos p).recovery = some r)
    (why : EndCause) :
    s.closeRecovery p why =
      (s.recorded (r.written p (s.pos p).key s.queue.nextSequence why)).modPos p fun x =>
        { x with recovery := none, reservation := false } := by
  unfold State.closeRecovery
  simp only [h]
  rfl

/-- An ender takes the position to CLEARING with its cause (R31). -/
theorem State.endCall_eq (s : State) (p : PosId) (why : EndCause) :
    s.endCall p why = s.modPos p (·.inClearing s.settings.clearWait s.link.stamp why) := by
  apply State.modPos_congr
  unfold Position.enterClearing Position.inClearing Position.enter Position.mapCall
  have hc : ∀ c : Option Call, c.map (·.finish why s.link.stamp) = c.map fun c =>
      { c with endCause := some why, duration := (c.answer.map fun a => s.link.stamp - a).getD 0 } := by
    intro c
    cases c with
    | none => rfl
    | some c => unfold Call.finish; cases h : c.answer <;> simp [h]
  rw [hc]
  by_cases h : (s.pos p).line.accepted = some .idle
  · simp [h, PosState.inCall, PosState.metered, OneShot.stop]
  · simp [h, PosState.inCall, PosState.metered]

/-- Nothing to settle at a position just ended, where its line or its debt keeps it clearing. -/
theorem State.settle_of_inClearing (s : State) (p : PosId) (wait : Nat) (now : Word32) (why : EndCause)
    (f : Position → Position)
    (h : (f (s.pos p)).line.accepted ≠ some .idle ∨ 0 < (f (s.pos p)).debt) :
    (s.modPos p fun x => (f x).inClearing wait now why).settle p =
      s.modPos p fun x => (f x).inClearing wait now why := by
  apply State.settle_of_clearing
  · simp [Position.inClearing]
  · simp only [State.modPos_pos_self, Position.inClearing]
    rcases h with h | h
    · simp [h]
    · right; left; omega

end Sys2Proof.Machine
end

