-- ==== Sys2Proof/Laws/Layouts.lean ====
section
/-!
SUPPORT. The byte layouts: the lengths of their parts, the wider fields read back from their bytes, and the frames that
no owner takes. A layout is unfolded before its lengths are rewritten: its equations are slow in simp.
-/

namespace Sys2Proof.Machine

@[simp] theorem byte1_length (n : Nat) : (byte1 n).length = 1 := rfl
@[simp] theorem byte2_length (n : Nat) : (byte2 n).length = 2 := rfl
@[simp] theorem mark1_length (b : Bool) : (mark1 b).length = 1 := rfl
@[simp] theorem bytes16_length (w : Word16) : (bytes16 w).length = 2 := rfl
@[simp] theorem bytes32_length (w : Word32) : (bytes32 w).length = 4 := rfl

@[simp] theorem segmentsBytes_length (gs : List Segment) : (segmentsBytes gs).length = 16 := by
  unfold segmentsBytes
  rw [List.length_take, List.length_append, List.length_replicate]
  omega

@[simp] theorem callBytes_length (c : Option Call) : (callBytes c).length = 44 := by
  cases c <;> unfold callBytes <;>
    simp only [List.length_append, List.length_replicate, byte1_length, byte2_length, mark1_length,
      bytes32_length, segmentsBytes_length]

@[simp] theorem recoveryBytes_length (r : Option Recovery) : (recoveryBytes r).length = 14 := by
  cases r <;> unfold recoveryBytes <;>
    simp only [List.length_append, List.length_replicate, byte1_length, byte2_length, mark1_length,
      bytes32_length]

@[simp] theorem evictionBytes_length (v : Option Eviction) : (evictionBytes v).length = 13 := by
  cases v <;> unfold evictionBytes <;>
    simp only [List.length_append, List.length_replicate, byte1_length, mark1_length, bytes16_length,
      bytes32_length]

@[simp] theorem engineBytes_length (s : State) (e : EngineId) : (engineBytes s e).length = 9 := by
  unfold engineBytes
  simp only [List.length_append, byte1_length, mark1_length]

/-! ### Wider fields -/

theorem word16_of_bytes (w : Word16) : word16 (w.extractLsb' 8 8) (w.extractLsb' 0 8) = w := by
  unfold word16
  ext i hi
  simp only [BitVec.getElem_append, BitVec.getElem_extractLsb']
  split
  · simp [BitVec.getLsbD_eq_getElem hi]
  · rw [show 8 + (i - 8) = i by omega, BitVec.getLsbD_eq_getElem hi]

theorem word32_of_bytes (w : Word32) :
    word32 (w.extractLsb' 24 8) (w.extractLsb' 16 8) (w.extractLsb' 8 8) (w.extractLsb' 0 8) = w := by
  unfold word32
  ext i hi
  simp only [BitVec.getElem_append, BitVec.getElem_extractLsb']
  split
  · simp [BitVec.getLsbD_eq_getElem hi]
  · split
    · rw [show 8 + (i - 8) = i by omega, BitVec.getLsbD_eq_getElem hi]
    · split
      · rw [show 16 + (i - 8 - 8) = i by omega, BitVec.getLsbD_eq_getElem hi]
      · rw [show 24 + (i - 8 - 8 - 8) = i by omega, BitVec.getLsbD_eq_getElem hi]

/-! ### Frames no owner takes -/

/-- A frame refused before any owner is read as such. -/
theorem decodeRequest_of_refused {type : Byte} {body : List Byte} (h : refusedByLink type body = true) :
    decodeRequest type body = .unknownRequest type body := by
  have hn : requestLength type ≠ some body.length := by simpa [refusedByLink] using h
  unfold requestLength at hn
  unfold decodeRequest
  split at hn
  all_goals
    first
      | rfl
      | (rcases body with _ | ⟨a, _ | ⟨b, _ | ⟨c, _ | ⟨d, _ | ⟨e, _ | ⟨f, _ | ⟨g, _ | ⟨i, _ | ⟨j, r⟩⟩⟩⟩⟩⟩⟩⟩⟩ <;>
           first
             | rfl
             | exact absurd rfl hn)

end Sys2Proof.Machine
end

