-- ==== Sys2Proof/Laws/Units.lean ====
section
/-!
SUPPORT. Units charged, passed to the tear list and handed over: what each shared operation does, once.
-/

namespace Sys2Proof.Machine

/-! ### Charging -/

/-- Units go to the last segment (R56). -/
theorem addToLast_append (n : Nat) (gs : List Segment) (g : Segment) :
    addToLast n (gs ++ [g]) = gs ++ [{ g with units := g.units + n }] := by
  induction gs with
  | nil => rfl
  | cons a gs ih =>
    cases gs with
    | nil => rfl
    | cons b gs => simpa [addToLast] using ih

/-- A charge into a call whose last segment is known (R66). -/
theorem Call.charge_eq {c : Call} {gs : List Segment} {g : Segment} (h : c.segments = gs ++ [g]) (n : Nat) :
    c.charge n = c.charging n gs g := by
  unfold Call.charge Call.charging
  rw [h, addToLast_append]

/-- Everything a charge does (R66). -/
theorem State.charge_eq (s : State) (p : PosId) (n : Nat) :
    s.charge p n =
      { (s.modPos p fun x => { x with debt := x.debt + n, call := x.call.map (·.charge n) }) with
        acct := s.acct.plusCharged n } := rfl

/-- A unit expiry in METERING that the ceiling does not cut, with no recopy due (R68). -/
theorem State.meteringExpiry_eq {s : State} {p : PosId} {c : Call} {k : InUseTariff} (h1 : (s.pos p).call = some c)
    (h2 : c.tariff = some k) (h3 : c.bandPending = false) (h4 : k.step ≤ 7 - (s.pos p).debt) :
    s.meteringExpiry p = (s.charge p k.step).modPos p fun x => x.reload.lastUnitTest := by
  unfold State.meteringExpiry
  have hn : min k.step (Config.debtCeiling - (s.pos p).debt) = k.step := Nat.min_eq_left h4
  simp only [h1, h2, hn, h3]
  rw [if_neg (Nat.lt_irrefl _)]
  rfl

/-! ### The tear list -/

/-- No READY position holds the key: no notice is handed out. -/
theorem State.handNotices_of_none {s : State} {k : CardKey}
    (h : ∀ q, (s.pos q).state = .ready → (s.pos q).key ≠ some k) : s.handNotices k = s := by
  refine State.mapPos_eq_self fun q => ?_
  split
  · next hq =>
    simp only [Bool.and_eq_true, decide_eq_true_eq] at hq
    exact absurd hq.2 (h q hq.1)
  · rfl

/-- No position waits for the key: none leaves RECOVERING. -/
theorem State.releaseWaiters_of_none {s : State} {k : CardKey}
    (h : ∀ q, (s.pos q).waiting = true → (s.pos q).key ≠ some k) : s.releaseWaiters k = s := by
  refine State.mapPos_eq_self fun q => ?_
  split
  · next hq =>
    simp only [Bool.and_eq_true, decide_eq_true_eq] at hq
    exact absurd hq.2 (h q hq.1)
  · rfl

/-- An unlisted key with a place free: the entry is appended and the notices are handed out (R121, R124). -/
theorem State.createEntry_of_new {s : State} {t : TearEntry} (h1 : s.tearEntry t.key = none)
    (h2 : s.tear.entries.length < 32) : s.createEntry t = (s.appendEntry t).handNotices t.key := by
  unfold State.createEntry
  rw [h1]
  cases he : s.tear.entries with
  | nil => rfl
  | cons a l =>
    rw [he] at h2
    simp only [Config.tearPlaces, h2, if_true]

/-- A listed key: the two creations become one entry (R122, R124). -/
theorem State.createEntry_of_listed {s : State} {t old : TearEntry} (h : s.tearEntry t.key = some old) :
    s.createEntry t = (s.mergeEntry old t).handNotices t.key := by
  unfold State.createEntry
  rw [h]

/-- An unlisted key and a full list: the oldest entry is evicted first (R123). -/
theorem State.createEntry_of_full {s : State} {t oldest : TearEntry} {rest : List TearEntry}
    (h1 : s.tearEntry t.key = none) (h2 : s.tear.entries = oldest :: rest) (h3 : 32 ≤ s.tear.entries.length) :
    s.createEntry t = ((s.evict oldest).appendEntry t).handNotices t.key := by
  unfold State.createEntry
  rw [h1, h2]
  rw [h2] at h3
  simp only [Config.tearPlaces]
  rw [if_neg (by omega)]

/-- Nothing is owed: passing clears the card lost mark alone (R117). -/
theorem State.passDebt_of_nothing {s : State} {p : PosId} (h1 : (s.pos p).debt = 0) (h2 : (s.pos p).doubt = none) :
    s.passDebt p = s.modPos p fun x => { x with cardLost := false } := by
  unfold State.passDebt
  cases hi : (s.pos p).identity with
  | none => simp only [hi]
  | some id => simp [hi, h1, h2]

/-- The debt and the doubt of a call go to the tear list as one creation (R117). -/
theorem State.passDebt_of_call {s : State} {p : PosId} {id : CardId} {c : Call} (h1 : (s.pos p).identity = some id)
    (h2 : 0 < (s.pos p).debt) (h3 : (s.pos p).call = some c) :
    let d := if (s.pos p).doubt.isSome then 1 else 0
    s.passDebt p =
      (s.modPos p fun x =>
        { x with
          call := some { c with units :=
            { c.units with owedOut := c.units.owedOut + (x.debt - d), doubtOut := c.units.doubtOut + d } }
          debt := 0
          doubt := none
          cardLost := false }).createEntry
        { key := id.key, face := id.face, owed := (s.pos p).debt - d, inDoubt := (s.pos p).doubt, origin := p,
          stamp := s.link.stamp } := by
  intro d
  unfold State.passDebt
  have hd : ¬((s.pos p).debt = 0) := by omega
  simp only [h1, hd, decide_false, Bool.false_and]
  rw [if_neg (by simp)]
  congr 1
  apply State.modPos_congr
  unfold Position.mapUnits
  simp only [h3]
  rfl

/-! ### Recovery -/

/-- Entry into RECOVERING with a place free: the claim and the hand-over (R125, R138). -/
theorem State.enterRecovering_of_place {s : State} {p : PosId}
    (h : (s.modPos p (·.enter .recovering)).admits = true) :
    s.enterRecovering p = (s.modPos p (·.enter .recovering)).admitRecovery p := by
  unfold State.enterRecovering
  rw [if_pos h]

/-- Entry into RECOVERING with no place free: the position waits (R125). -/
theorem State.enterRecovering_of_full {s : State} {p : PosId}
    (h : (s.modPos p (·.enter .recovering)).admits = false) :
    s.enterRecovering p = s.modPos p (·.enter .recovering) := by
  unfold State.enterRecovering
  rw [if_neg (by simp [h])]

/-- A position takes a tear entry (R127, R128). -/
theorem Position.takeOver_eq (t : TearEntry) (now : Word32) (x : Position) : x.takeOver t now = x.owing t now := by
  unfold Position.takeOver Position.owing handOverDebt handOverOwed resolveDoubt handOverBurned handOverLost
  cases h : t.inDoubt with
  | none => simp
  | some b =>
    have e1 : (x.remaining + 1 = b) = (b = x.remaining + 1) := propext eq_comm
    have e2 : (x.remaining = b) = (b = x.remaining) := propext eq_comm
    by_cases h1 : b = x.remaining + 1
    · subst h1; simp
    · by_cases h2 : b = x.remaining
      · subst h2; simp
      · simp [e1, e2, h1, h2]

/-- A hand-over of a listed entry (R126 to R128). -/
theorem State.handOver_eq {s : State} {p : PosId} {k : CardKey} {t : TearEntry} (h1 : (s.pos p).key = some k)
    (h2 : s.tearEntry k = some t) :
    s.handOver p =
      State.settleHandOver
        (State.releaseWaiters
          (State.modPos
            (((s.modTear (·.remove k)).reportBurned (handOverBurned t.inDoubt (s.pos p).remaining)).reportWrittenOff
              (handOverOwed t (s.pos p).remaining - handOverDebt t (s.pos p).remaining +
                handOverLost t.inDoubt (s.pos p).remaining))
            p (·.takeOver t s.link.stamp)) k) p := by
  unfold State.handOver
  simp only [h1, h2]

/-- The entry found for a key is that key's. -/
theorem State.tearEntry_key {s : State} {k : CardKey} {t : TearEntry} (h : s.tearEntry k = some t) : t.key = k := by
  have := List.find?_some h
  simpa using this

/-- The positions after an entry is taken (R126 to R128). -/
theorem State.handing_pos (s : State) (p : PosId) (t : TearEntry) (q : PosId) :
    (s.handing p t).pos q = if q = p then (s.pos q).owing t s.link.stamp else (s.pos q).released t.key := by
  have h : (s.handing p t).positions =
      (s.mapPos fun q x => if q = p then x.owing t s.link.stamp else x.released t.key).positions := by
    unfold State.handing; dsimp only
  rw [State.pos_congr h, State.mapPos_pos]

/-- No engine changes when an entry is taken. -/
theorem State.handing_eng (s : State) (p : PosId) (t : TearEntry) (e : EngineId) : (s.handing p t).eng e = s.eng e := by
  have h : (s.handing p t).engines =
      (s.mapPos fun q x => if q = p then x.owing t s.link.stamp else x.released t.key).engines := by
    unfold State.handing; dsimp only
  rw [State.eng_congr h, State.mapPos_eng]

/-- What is counted when an entry is taken (R127, R128). -/
theorem State.handing_acct (s : State) (p : PosId) (t : TearEntry) :
    (s.handing p t).acct =
      (s.acct.plusBurned (handOverBurned t.inDoubt (s.pos p).remaining)).plusWrittenOff
        (handOverOwed t (s.pos p).remaining - handOverDebt t (s.pos p).remaining +
          handOverLost t.inDoubt (s.pos p).remaining) := by
  unfold State.handing
  rw [← Position.takeOver_eq]
  rfl

/-- The hand-over is the taking of the entry, and the end of the recovery where nothing is left to burn (R127, R128). -/
theorem State.handOver_eq_handing {s : State} {p : PosId} {t : TearEntry} {k : CardKey} (h1 : (s.pos p).key = some k)
    (h2 : s.tearEntry k = some t) (h3 : (s.pos p).reservation = true) :
    s.handOver p = (s.handing p t).settleHandOver p := by
  have hk := State.tearEntry_key h2
  subst hk
  rw [State.handOver_eq h1 h2]
  refine congrArg (fun u : State => u.settleHandOver p) ?_
  rw [State.releaseWaiters_eq]
  apply State.ext_views
  case hp =>
    intro q
    rw [State.handing_pos, State.mapPos_pos, State.modPos_pos]
    by_cases h : q = p
    · subst h
      rw [if_pos rfl, if_pos rfl, Position.takeOver_eq]
      unfold Position.released
      rw [if_neg]
      · rfl
      · rintro ⟨_, h', _⟩
        have h'' : (s.pos q).reservation = false := h'
        rw [h3] at h''; cases h''
    · rw [if_neg h, if_neg h]; rfl
  case he =>
    intro e
    rw [State.handing_eng, State.mapPos_eng]
    rfl
  case ha => rw [State.handing_acct, State.mapPos_acct]; rfl
  all_goals
    unfold State.handing
    simp only [State.mapPos_depths, State.mapPos_settings, State.mapPos_tariff, State.mapPos_tear,
      State.mapPos_queue, State.mapPos_link, State.mapPos_pending]
  all_goals rfl

end Sys2Proof.Machine
end

