-- ==== Sys2Proof/Tests/Slice0.lean ====
section
/-!
SUPPORT. The model's own tests: the checks of WellFormed, values the spec writes out, and for each statement with
hypotheses a concrete state and operands that meet all of them, clause by clause and at the ends of the ranges.
-/

set_option Elab.async false

namespace Sys2Proof.Tests

open Sys2Proof Sys2Proof.Machine Host

/-! ### Helpers -/

/-- The state a command answers. -/
def after (o : Outcome State Fault Refusal) : State :=
  match o with
  | .next t => t
  | .fault _ => .reset
  | .refused _ => .reset

def card : CardId := { key := { series := 0x019C, serial := 0x00015FA1 }, face := 50 }

def inUse : InUseTariff := { period := 300, step := 2, follow := true }

def entry : TariffEntry := { defined := true, period := 300, step := 2, initial := 1, follow := true }

def freeEntry : TariffEntry := { defined := true, period := 0, step := 1, initial := 0, follow := false }

/-- A table whose every entry is one. -/
def table (e : TariffEntry) : TariffTable := Vector.replicate 16 (Vector.replicate 4 e)

def segment : Segment := { band := 0, edition := 0, units := 3 }

def call : Call where
  kind := .call
  cls := 4
  setup := 100
  answer := some 110
  tariff := some inUse
  bandPending := false
  segments := [segment]
  merged := false
  charged := 3
  units := .zero
  endCause := none
  duration := 0

/-- A position in a call state, with a card of 20 units and 2 units of debt. -/
def talking (st : PosState) (x : Position) : Position :=
  { x with
    state := st
    hook := .acceptedAt .off
    card := .acceptedAt .present
    line := .acceptedAt .answer
    lineEnable := st.inCall
    identity := some card
    remaining := 20
    debt := 2
    unitTimer := { count := 0, running := st.metered }
    reservation := true
    call := some call }

/-- Position 3 changed from reset. -/
def one (f : Position → Position) : State := State.reset.modPos 3 f

/-- A position with its card, in a state with no call. -/
def holding (st : PosState) (x : Position) : Position :=
  { x with
    state := st
    hook := .acceptedAt .off
    card := .acceptedAt .present
    line := .acceptedAt .idle
    identity := some card
    remaining := 20 }

/-- The same state with every tariff entry the one given. -/
def priced (e : TariffEntry) (s : State) : State := s.modTariff fun t => { t with active := table e, staged := table e }

/-- Position 3 changed, with an operation of it at E0, whose lane is in service. -/
def onBus (op : CardOp) (st : BusStep) (f : Position → Position) : State :=
  (one fun x => { f x with inFlight := some { engine := 0, op := op, discard := false } }).modEng 0 fun g =>
    { g with
      lane := .inService
      testTimeLeft := 0
      op := some
        { position := 3, op := op, step := st, before := 20, key := if op = .burn then some card.key else none } }

/-- The example header of 05: the card above, with 20 units left of 50 (R80). -/
def headerBytes : Vector Byte 12 := #v[0x5A, 0x01, 0x9C, 0x00, 0x01, 0x5F, 0xA1, 0x00, 0x32, 0x00, 0x14, 0xC1]

def tornEntry (doubt : Option Nat) : TearEntry :=
  { key := card.key, face := 50, owed := 3, inDoubt := doubt, origin := 9, stamp := 7 }

def torn (doubt : Option Nat) (s : State) : State := s.modTear fun l => { l with entries := [tornEntry doubt] }

def record (n : Word16) : CallRecord := (call.record 3 (some card.key) n)

/-- The same state with n records queued, the oldest with sequence 65472. -/
def queued (n : Nat) (s : State) : State :=
  s.modQueue fun _ =>
    { records := (List.range n).map fun i => record (65472 + BitVec.ofNat 16 i)
      nextSequence := 65472 + BitVec.ofNat 16 n }

/-! ### WellFormed -/

theorem test_wellFormed_unknownType : (Instr.unknownRequest 0x7F [1, 2]).WellFormed = true := by decide
theorem test_wellFormed_badLength : (Instr.unknownRequest 0x11 []).WellFormed = true := by decide
theorem test_illFormed_ownersFrame : (Instr.unknownRequest 0x11 [3]).WellFormed = false := by decide
theorem test_illFormed_bodyTooLong :
    (Instr.unknownRequest 0x7F (List.replicate 250 0)).WellFormed = false := by decide +kernel
theorem test_wellFormed_longestBody :
    (Instr.unknownRequest 0x7F (List.replicate 249 0)).WellFormed = true := by decide +kernel

/-! ### Values the spec writes out -/

/-- The check of R153 over the nine digits. -/
theorem test_crc16_check : crc16 [0x31, 0x32, 0x33, 0x34, 0x35, 0x36, 0x37, 0x38, 0x39] = 0x29B1 := by
  decide +kernel

/-- The example header of 05: its check passes and its fields read as written. -/
theorem test_header_example :
    headerCheckPasses headerBytes = true ∧
      headerOf headerBytes =
        { kind := 0x5A, key := { series := 412, serial := 90017 }, face := 50, counter := 20 } := by
  decide +kernel

/-- A STATUS frame received byte by byte is answered with 82 field bytes after the result byte. -/
theorem test_status_by_bytes :
    let t := (frame 0x01 []).foldl (fun s b => after (exec (.linkByteReceived b) s)) State.reset
    t.link.handed = some .status ∧ t.link.answerPending = true ∧
      ((after (exec .status t)).link.response.map (·.length)) = some 88 := by
  decide +kernel

/-- A frame with one byte changed is discarded. -/
theorem test_bad_frame_discarded :
    let bytes := (frame 0x11 [3]).set 3 4
    let t := bytes.foldl (fun s b => after (exec (.linkByteReceived b) s)) State.reset
    t.link.linkError = true ∧ t.link.handed = none ∧ t.acct.global.discarded = 1 := by
  decide +kernel

/-! ### Witnesses: steps and supervision -/

/-- Every request is taken where no answer is pending, as after power-on. -/
theorem takes_of_idle {s : State} (h : s.link.answerPending = false) (c : Instr) : s.Takes c := Or.inl h

theorem witness_StepRunsFrontCommand :
    ({ State.reset with pending := [.meteringTick, .status] } : State).pending = .meteringTick :: [.status] := by
  decide +kernel

theorem witness_IdleStepCountsTestTime : State.reset.pending = [] ∧ (State.reset.eng 0).lane = .testing := by
  decide +kernel

theorem witness_InputDebounceStep :
    (State.reset.pos 47).frozen = false ∧ ((one fun x => { x with freezeMark := true }).pos 3).frozen = true ∧
      ((one fun x => { x with profile := .unused }).pos 3).frozen = true := by
  decide +kernel

/-- A position about to accept a card. -/
def inserting : State := one fun x => { x with card := { accepted := some .absent, last := some .present, run := 5 } }

theorem witness_InsertionStartsReading :
    let s := inserting
    (s.pos 3).frozen = false ∧ Input.Completes s.depths.card .present (s.pos 3).card ∧ (s.pos 3).state = .vacant ∧
      (s.pos 3).profile = .card ∧ (s.pos 3).inFlight = none ∧ (s.pos 3).identity = none := by
  decide +kernel

/-- A position about to accept the withdrawal of its card. -/
def withdrawing (st : PosState) (doubt : Option Nat) (x : Position) : Position :=
  { (talking st x) with card := { accepted := some .present, last := some .absent, run := 5 }, doubt := doubt }

/-- A withdrawal about to be accepted at each kind of position, on an idle line and on another, with and without an
operation in flight. -/
def leaving (op : Option CardOp) (line : LineCode) (st : PosState) : State :=
  let f := fun x : Position =>
    { (withdrawing st none x) with
      line := .acceptedAt line, call := if st.inCall || st = .clearing then some call else none }
  match op with
  | none => one f
  | some o => onBus o .ready f

theorem witness_WithdrawalEndsCall :
    ∀ st ∈ [PosState.vacant, .blocked, .reading, .refused, .ready, .freeCall, .routed, .metering, .lastUnit, .clearing,
        .recovering], ∀ op ∈ [none, some CardOp.burn], ∀ line ∈ [LineCode.idle, .answer],
      let s := leaving op line st
      (s.pos 3).frozen = false ∧ (s.pos 3).card.accepted = some .present ∧
        Input.Completes s.depths.card .absent (s.pos 3).card ∧ (s.pos 3).state = st ∧ (s.pos 3).pendingOp = none ∧
        (s.pos 3).inFlight.isSome = op.isSome ∧ (s.pos 3).line.accepted = some line ∧
        (s.pos 3).identity = some card := by
  decide +kernel

/-- A recovery under way, or a position that waits for a place. -/
def recovering (taken : Bool) (x : Position) : Position :=
  { (withdrawing .recovering none x) with
    call := none
    reservation := taken
    recovery :=
      if taken then
        some { owedIn := 3, resolution := .noDoubt, start := 7, units := { Units.zero with burned := 1 } }
      else none }

/-- A call in CLEARING with its line done or not, and a recovery. -/
theorem witness_WithdrawalEndsCall_clearing :
    (∀ b ∈ [true, false], ∀ op ∈ [none, some CardOp.burn],
      let f := fun x : Position =>
        { (withdrawing .clearing (some 20) x) with
          forcedClear := b, call := some { call with endCause := some .hungUp } }
      let s := match op with
        | none => one f
        | some o => onBus o .ready f
      (s.pos 3).state = .clearing ∧ (s.pos 3).forcedClear = b ∧ (s.pos 3).inFlight.isSome = op.isSome ∧
        (s.pos 3).call = some { call with endCause := some .hungUp } ∧ (s.pos 3).identity ≠ none) ∧
    (∀ b ∈ [true, false], let s := one (recovering b)
      (s.pos 3).state = .recovering ∧ (s.pos 3).reservation = b ∧ (s.pos 3).inFlight = none ∧ (s.pos 3).call = none ∧
        (s.pos 3).recovery.isSome = b) := by
  decide +kernel

/-- A full list, its oldest entry in doubt. -/
def fullList : TearList where
  entries := (List.range 32).map fun i =>
    { tornEntry (if i = 0 then some 9 else none) with key := { series := 1, serial := BitVec.ofNat 32 i } }
  lastEviction := none

/-- What is passed, and the three ways the list takes it: a new entry in the last place, a merge, an eviction. -/
theorem witness_WithdrawalEndsCall_list :
    (let s := one (talking .metering)
     (s.pos 3).identity = some card ∧ (s.pos 3).recovery = none ∧ 0 < (s.pos 3).debt) ∧
    ((one fun x => { (talking .metering x) with debt := 0 }).pos 3).debt = 0 ∧
    (let s := State.reset.modTear fun _ => { fullList with entries := fullList.entries.take 31 }
     s.tearEntry card.key = none ∧ s.tear.entries.length = 31) ∧
    ((torn (some 20) State.reset).tearEntry card.key = some (tornEntry (some 20))) ∧
    (let s := State.reset.modTear fun _ => fullList
     s.tearEntry card.key = none ∧ s.tear.entries.head?.isSome = true ∧ s.tear.entries.length = 32) := by
  decide +kernel



/-! ### Witnesses: calls -/

def hangingUp (st : PosState) : State :=
  one fun x => { (talking st x) with hook := { accepted := some .off, last := some .on, run := 3 } }

def clearingBack (st : PosState) : State :=
  one fun x => { (talking st x) with line := { accepted := some .answer, last := some .clearback, run := 1 } }

theorem witness_EndersTakeCallToClearing (st : PosState) (h : st ∈ [.routed, .metering, .lastUnit, .freeCall]) :
    ((hangingUp st).pos 3).state = st ∧ ((hangingUp st).pos 3).frozen = false ∧
      Input.Completes (hangingUp st).depths.hook .on ((hangingUp st).pos 3).hook ∧
      ((hangingUp st).pos 3).line.accepted ≠ some .idle ∧ 0 < ((hangingUp st).pos 3).debt ∧
      ((clearingBack st).pos 3).state = st ∧ ((clearingBack st).pos 3).frozen = false ∧
      Input.Completes (clearingBack st).depths.line .clearback ((clearingBack st).pos 3).line ∧
      (one (talking st)).Takes (.release (posByte 3)) ∧ (one (talking st)).Takes (.block (posByte 3)) := by
  simp only [List.mem_cons, List.not_mem_nil, or_false] at h
  rcases h with rfl | rfl | rfl | rfl <;> decide +kernel

/-- A call whose ANSWER_WAIT has come to 0. -/
def unanswered : State := one fun x => { (talking .routed x) with oneShot := { kind := .answerWait, count := 0 } }

theorem witness_EndersTakeCallToClearing_noAnswer :
    (unanswered.pos 3).state = .routed ∧ (unanswered.pos 3).oneShot = { kind := .answerWait, count := 0 } ∧
      (unanswered.pos 3).line.accepted ≠ some .idle := by
  decide +kernel

/-- A routed call about to be answered, under a tariff. -/
def answering (e : TariffEntry) (remaining : Nat) : State :=
  priced e (one fun x =>
    { (talking .routed x) with
      line := { accepted := some .proceed, last := some .answer, run := 1 }
      debt := 0, remaining := remaining
      call := some { call with answer := none, tariff := none, segments := [], charged := 0 } })

/-- With a usable entry, on both sides of the last-unit test, and without one, free or undefined. -/
theorem witness_AnswerRunsProcedure :
    (∀ r ∈ [3, 2], let s := answering entry r
      (s.pos 3).frozen = false ∧ Input.Completes s.depths.line .answer (s.pos 3).line ∧ (s.pos 3).state = .routed ∧
      (s.pos 3).call ≠ none ∧ (s.tariff.active.entry 4 s.tariff.band).defined = true ∧
      (s.tariff.active.entry 4 s.tariff.band).period ≠ 0) ∧
    (∀ e ∈ [freeEntry, .undefined], let s := answering e 3
      (s.pos 3).frozen = false ∧ Input.Completes s.depths.line .answer (s.pos 3).line ∧ (s.pos 3).state = .routed ∧
      (s.pos 3).call ≠ none ∧ (s.tariff.active.entry 4 s.tariff.band).period = 0) := by
  decide +kernel

/-- A call in CLEARING whose CLEAR_WAIT has come to 0. -/
def clearing (debt : Nat) : State :=
  one fun x =>
    { (talking .clearing x) with
      forcedClear := true, debt := debt, oneShot := { kind := .clearWait, count := 0 }
      call := some { call with endCause := some .hungUp } }

/-- The rows of R36, each first to hold: block pending, a card left with and without another in the slot, a faulty card, a
listed one with the queue full and with the last place free, no identity under either profile, no units and units. -/
theorem witness_ClearWaitExpiryEndsLinePart :
    (∀ k ∈ [CallKind.call, .free], ∀ f ∈ [fun x : Position => { x with blockPending := true },
        fun x => { x with cardLeft := true }, fun x => { x with card := .acceptedAt .absent },
        fun x => { x with faulty := true }, fun x => { x with identity := none },
        fun x => { x with identity := none, profile := .free }, fun x => { x with remaining := 0 }, fun x => x],
      let s := (clearing 0).modPos 3 fun x =>
        { (f x) with call := some { call with kind := k, endCause := some .hungUp } }
      (s.pos 3).state = .clearing ∧ (s.pos 3).oneShot = { kind := .clearWait, count := 0 } ∧
        (s.pos 3).call = some { call with kind := k, endCause := some .hungUp } ∧ (s.pos 3).debt = 0 ∧
        (s.pos 3).doubt = none ∧ (s.pos 3).cardLost = false ∧ (s.pos 3).inFlight = none ∧
        s.tearEntry card.key = none) ∧
    (∀ n ∈ [62, 63], let s := queued n (torn none (clearing 0))
      s.queue.records.length + s.reservations = n + 1 ∧ s.tearEntry card.key = some (tornEntry none) ∧
        (s.pos 3).reservation = true ∧ 0 < ((s.pos 3).owing (tornEntry none) s.link.stamp).debt) ∧
    0 < ((clearing 1).pos 3).debt := by
  decide +kernel

/-! ### Witnesses: metering -/

theorem witness_TickAndToneExpiry :
    ((one fun x => { (talking .lastUnit x) with oneShot := { kind := .tone, count := 0 } }).pos 3).oneShot =
      { kind := .tone, count := 0 } := by
  decide +kernel

/-- A position with a unit expiry due. -/
def expiring (st : PosState) (debt remaining : Nat) (pending : Bool) : State :=
  priced { entry with period := 600 } (one fun x =>
    { (talking st x) with debt := debt, remaining := remaining, call := some { call with bandPending := pending } })

/-- The step fits at the ceiling, and remaining stands on both sides of the last-unit test. -/
theorem witness_UnitExpiryChargesStep :
    ∀ r ∈ [9, 8], let s := expiring .metering 5 r false
      (s.pos 3).state = .metering ∧ (s.pos 3).unitTimer = { count := 0, running := true } ∧
      (s.pos 3).call = some call ∧ call.tariff = some inUse ∧ call.bandPending = false ∧
      call.segments = [] ++ [segment] ∧ inUse.step ≤ 7 - (s.pos 3).debt := by
  decide +kernel

theorem witness_UnitExpiryRecopiesTariff :
    let s := expiring .metering 5 9 true
    (s.pos 3).state = .metering ∧ (s.pos 3).unitTimer = { count := 0, running := true } ∧
      (s.pos 3).call = some { call with bandPending := true } ∧ call.tariff = some inUse ∧
      call.segments = [] ++ [segment] ∧ inUse.step ≤ 7 - (s.pos 3).debt := by
  decide +kernel

theorem witness_UnitExpiriesThatEndCalls :
    (∀ d ∈ [6, 7], let s := expiring .metering d 20 false
      (s.pos 3).state = .metering ∧ (s.pos 3).unitTimer = { count := 0, running := true } ∧
      (s.pos 3).call = some call ∧ call.tariff = some inUse ∧ call.segments = [] ++ [segment] ∧ (s.pos 3).debt ≤ 7 ∧
      7 - (s.pos 3).debt < inUse.step) ∧
    (let s := expiring .lastUnit 2 3 false
     (s.pos 3).state = .lastUnit ∧ (s.pos 3).unitTimer = { count := 0, running := true } ∧
      (s.pos 3).call = some call ∧ call.tariff = some inUse ∧ call.segments = [] ++ [segment] ∧
      (s.pos 3).line.accepted ≠ some .idle) := by
  decide +kernel

theorem witness_StampAdvancesAndIsSet : State.reset.Takes (.clock 0xFFFFFFFF) := by decide +kernel

/-- An expiry of the interval timer stands to be taken. -/
def intervalOver : State :=
  after (exec .stampAdvance (State.reset.modAcct fun a => { a with interval := 10, intervalLeft := 1 }))

theorem witness_SnapshotCopiesAndClears :
    intervalOver.Takes .snapshot ∧ intervalOver.acct.intervalDue = true := by
  decide +kernel

/-- A SNAPSHOT and an expiry together are two snapshot events in either order, and a SET of the interval ends the
expiry (R149). -/
theorem test_snapshot_and_expiry :
    let cleared := fun s : State => s.modLink fun l => { l with snapshotReady := false }
    (after (exec .snapshotIntervalExpiry (cleared (after (exec .snapshot intervalOver))))).link.snapshotReady = true ∧
      (after (exec .snapshot (cleared (after (exec .snapshotIntervalExpiry intervalOver))))).link.snapshotReady = true ∧
      (after (exec (.set 7 0) intervalOver)).acct.intervalDue = false := by
  decide +kernel

/-! ### Witnesses: lanes and the bus -/

theorem witness_BusTestEndSetsLane : ∀ e, (State.reset.eng e).lane = .testing := by decide +kernel

/-- An operation under way at E0 for position 3, at any step, is in flight with no lane reset running. -/
theorem witness_busSteps (op : CardOp) (st : BusStep) :
    ((onBus op st (talking .metering)).eng 0).op =
        some { position := 3, op := op, step := st, before := 20, key := if op = .burn then some card.key else none } ∧
      ((onBus op st (talking .metering)).eng 0).laneReset = false :=
  ⟨rfl, rfl⟩

/-- The headers of the clauses: one that passes the check and shows the held card, one of another card, one that
fails. -/
theorem witness_HeaderReadSteps :
    (headerBytes.toList.map BitVec.toNat).sum % 256 = 255 ∧
      ((headerBytes.set 11 0xC2).toList.map BitVec.toNat).sum % 256 ≠ 255 ∧
      (((headerBytes.set 2 0x9B).set 11 0xC2).toList.map BitVec.toNat).sum % 256 = 255 ∧
      (headerOf headerBytes).key = card.key ∧ (headerOf ((headerBytes.set 2 0x9B).set 11 0xC2)).key ≠ card.key := by
  decide +kernel

/-- A completion due with any outcome, in each lane state, with and without disable pending. -/
def due (op : CardOp) (o : OpOutcome) (lane : LaneState) (disable : Bool) : State :=
  (onBus op (.ended o) (talking .metering)).modEng 0 fun g => { g with lane := lane, disablePending := disable }

theorem witness_LaneStateAfterCompletion (op : CardOp) (o : OpOutcome) (lane : LaneState) (disable : Bool) :
    ((due op o lane disable).eng 0).Due
        { position := 3, op := op, step := .ended o, before := 20, key := if op = .burn then some card.key else none } o ∧
      ((due op o lane disable).eng 0).lane = lane ∧ ((due op o lane disable).eng 0).disablePending = disable :=
  ⟨⟨rfl, .inl ⟨rfl, rfl⟩⟩, rfl, rfl⟩

theorem witness_LaneStateAfterCompletion_reset (o : EngineOp) :
    ({ Engine.reset true with op := some o, laneReset := true } : Engine).Due o .abandoned :=
  ⟨rfl, .inr ⟨rfl, rfl⟩⟩

/-! ### Witnesses: outcomes at the position -/

/-- A reading position. -/
def reading (retry : Nat) (x : Position) : Position :=
  { x with state := .reading, card := .acceptedAt .present, retry := retry }

theorem witness_IdentifyOutcomeRows (o : OpOutcome) :
    (onBus .identify (.ended o) (reading 2)).DueAt 0 3 .identify 20 none o ∧
      ((onBus .identify (.ended o) (reading 2)).pos 3).state = .reading ∧
      ((onBus .identify (.ended o) (reading 2)).pos 3).blockPending = false ∧
      ((onBus .identify (.ended o) (reading 2)).pos 3).recovery = none ∧
      ((onBus .identify (.ended o) (reading 2)).pos 3).card.accepted = some .present ∧
      ((onBus .identify (.ended o) (reading 2)).pos 3).retry = 2 ∧
      ((onBus .identify (.ended o) (reading 1)).pos 3).retry < 2 :=
  ⟨⟨rfl, rfl, rfl, rfl, rfl, rfl, rfl⟩, rfl, rfl, rfl, rfl, rfl, Nat.one_lt_two⟩

/-- The rows of R21: the entry of a listed card stands, with the queue full and with the last place free, and none
stands at reset. -/
theorem witness_IdentifyOutcomeRows_rows :
    (∀ n ∈ [63, 64], let s := queued n (torn none (onBus .identify (.ended .noCard) (reading 0)))
      s.tearEntry card.key = some (tornEntry none) ∧ s.queue.records.length + s.reservations = n ∧
        (s.pos 3).reservation = false ∧
        0 < (({ s.pos 3 with remaining := 20 } : Position).owing (tornEntry none) s.link.stamp).debt) ∧
      State.reset.tearEntry card.key = none := by
  decide +kernel

/-- An IDENTIFY that ends BUS_FAULT, and one cut off by a lane reset. -/
theorem witness_IdentifyOutcomeRows_faults :
    (let s := onBus .identify (.ended .busFault) (reading 1)
     (s.eng 0).op.isSome = true ∧ (s.eng 0).laneReset = false ∧ (s.eng 0).lane = .inService ∧
      (s.pos 3).inFlight = some { engine := 0, op := .identify, discard := false } ∧ (s.pos 3).pendingAlloc = none ∧
      (s.pos 3).cardLost = false ∧ (s.pos 3).state = .reading ∧ (s.pos 3).identity = none) ∧
    (let s := (onBus .identify .read (reading 1)).modEng 0 fun g => { g with laneReset := true }
     ∃ op, (s.eng 0).op = some op ∧ (s.eng 0).Due op .abandoned ∧ op.op = .identify ∧ op.position = 3) := by
  refine ⟨by decide +kernel, _, rfl, ?_⟩
  decide +kernel

/-- A VERIFY that ends READ with the doubt's counter less one, equal and higher, with a lower one below the debt, below
the step and at it, and with another card. -/
theorem witness_VerifySettlesDoubt :
    ∀ n ∈ [19, 20, 21, 0, 2, 3], ∀ k ∈ [card.key, { card.key with serial := 5 }],
      let h : Header := { kind := 0x5A, key := k, face := 50, counter := n }
      let s := onBus .verify (.ended (.read h)) fun x => { (talking .metering x) with doubt := some 20 }
      s.DueAt 0 3 .verify 20 none (.read h) ∧ (s.pos 3).state = .metering ∧ (s.pos 3).identity = some card ∧
        (s.pos 3).doubt = some 20 ∧ (s.pos 3).call = some call ∧ (s.pos 3).line.accepted ≠ some .idle ∧
        0 < (s.pos 3).debt - 1 ∧ call.tariff = some inUse ∧ (s.pos 3).debt - 1 + inUse.step = 3 := by
  decide +kernel

/-- A BURN that ends DONE with debt left, kept by its engine and, with the burst at the grant length, not. -/
theorem witness_BurnDoneTakesOneUnit :
    ∀ st ∈ [PosState.metering, .lastUnit], ∀ n ∈ [1, 4],
      let s := (onBus .burn (.ended (.done 19)) (talking st)).modEng 0 fun g => { g with burst := n }
      s.DueAt 0 3 .burn 20 (some card.key) (.done 19) ∧ (s.pos 3).state = st ∧ (s.pos 3).call = some call ∧
        1 < (s.pos 3).debt ∧ (s.pos 3).doubt = none ∧ (s.pos 3).card.accepted = some .present ∧
        (s.pos 3).faulty = false ∧ engineOf 3 (s.pos 3).allocation = 0 ∧ s.candidates 0 = [] ∧
        ((s.eng 0).burst < (s.eng 0).grantLength ↔ n = 1) := by
  decide +kernel

theorem witness_BurnWithoutUnitAtPosition :
    ∀ o ∈ [OpOutcome.cardGone, .busFault, .timeout, .notTaken 20, .anomaly 3, .anomaly 21], ∀ r ∈ [0, 1, 2],
      let s := onBus .burn (.ended o) fun x => { (talking .metering x) with retry := r }
      s.DueAt 0 3 .burn 20 (some card.key) o ∧ (s.pos 3).state = .metering ∧ (s.pos 3).call = some call ∧
        (s.pos 3).line.accepted ≠ some .idle ∧ (s.pos 3).retry = r ∧ call.tariff = some inUse ∧
        (s.pos 3).debt - 1 + inUse.step ≤ 3 ∧ 3 + 1 < 20 ∧ 20 < 21 := by
  decide +kernel

/-- A card gone while an operation was on the bus: a call in CLEARING with its line done or not, and a recovery. -/
def lost (op : CardOp) (o : OpOutcome) (retry : Nat) (f : Position → Position) : State :=
  onBus op (.ended o) fun x =>
    { (f (talking .clearing x)) with
      card := .acceptedAt .absent, cardLost := true, cardLeft := true, retry := retry
      doubt := if op = .verify then some 20 else none }

def lostClearing (line : Bool) (x : Position) : Position :=
  { x with forcedClear := line, call := some { call with endCause := some .cardWithdrawn } }

theorem witness_BurnWithoutUnitAtPosition_lost :
    ∀ f ∈ [lostClearing true, lostClearing false, recovering true], ∀ op ∈ [CardOp.burn, .verify],
      ∀ o ∈ [OpOutcome.done 19, .notTaken 20, .timeout, .cardGone, .busFault, .anomaly 3, .anomaly 0, .anomaly 21, .checkFail,
        .noCard, .read (headerOf headerBytes)], ∀ r ∈ [0, 2],
      let s := lost op o r f
      (s.eng 0).Due
          { position := 3, op := op, step := .ended o, before := 20
            key := if op = .burn then some card.key else none } o ∧
        (s.eng 0).lane = .inService ∧ (s.pos 3).inFlight = some { engine := 0, op := op, discard := false } ∧
        (s.pos 3).pendingAlloc = none ∧ (s.pos 3).cardLost = true ∧ (s.pos 3).cardLeft = true ∧
        (s.pos 3).identity = some card ∧ ((s.pos 3).call = none ∨ (s.pos 3).recovery = none) ∧
        (op = .verify → (s.pos 3).doubt = some 20) ∧
        (s.pos 3).card.accepted ≠ some .present ∧ (s.pos 3).debt - 1 ≤ 3 ∧ 0 < (s.pos 3).debt - 1 := by
  decide +kernel

/-- A READY position with a notice of its card, listed with a doubt. -/
def noticed (doubt : Option Nat) (st : PosState) : State :=
  torn doubt (one fun x => { (holding st x) with notice := some card.key })

theorem witness_ListedCardNoticeStartsRecovery :
    ((noticed none .refused).pos 3).notice = some card.key ∧ ((noticed none .refused).pos 3).state ≠ .ready ∧
      (let s := queued 64 (noticed none .ready)
       (s.pos 3).state = .ready ∧ (s.pos 3).key = some card.key ∧ s.tearEntry card.key ≠ none ∧
        s.queue.records.length + s.reservations = 64 ∧ (s.pos 3).recovery = none) ∧
      ∀ d ∈ [none, some 21, some 20, some 19, some 25], let s := noticed d .ready
        (s.pos 3).notice = some card.key ∧ (s.pos 3).state = .ready ∧
          (s.pos 3).key = some card.key ∧ s.tearEntry card.key = some (tornEntry d) ∧
          s.queue.records.length + s.reservations < 64 ∧ (s.pos 3).reservation = false ∧
          0 < ((s.pos 3).owing (tornEntry d) s.link.stamp).debt := by
  decide +kernel

/-- An entry that leaves no debt to set, and an entry gone. -/
theorem witness_ListedCardNoticeStartsRecovery_settled :
    (let s := (noticed none .ready).modTear fun l => { l with entries := [{ tornEntry (some 21) with owed := 0 }] }
     (s.pos 3).notice = some card.key ∧ (s.pos 3).state = .ready ∧ (s.pos 3).key = some card.key ∧
      s.tearEntry card.key = some { tornEntry (some 21) with owed := 0 } ∧
      ((s.pos 3).owing { tornEntry (some 21) with owed := 0 } s.link.stamp).debt = 0 ∧
      (s.pos 3).card.accepted = some .present ∧ (s.pos 3).cardLost = false ∧ (s.pos 3).inFlight = none) ∧
    ((noticed none .ready).modTear fun l => { l with entries := [] }).tearEntry card.key = none := by
  decide +kernel

/-! ### Witnesses: the station link -/

/-- An answer is pending to another request. -/
def answering2 : State := State.reset.answered .counters (.accepted [])

theorem witness_DiscardsAndUnknownRequests :
    isRequest .status = true ∧ Instr.status.WellFormed = true ∧ answering2.link.answerPending = true ∧
      answering2.link.handed ≠ some .status ∧ State.reset.Takes (.unknownRequest 0x7F [1]) ∧
      requestLength 0x7F = none ∧ State.reset.Takes (.unknownRequest 0x11 [1, 2]) ∧ requestLength 0x11 = some 1 ∧
      ([1, 2] : List Byte).length ≠ 1 := by
  decide +kernel

/-- The receiver in each of its states, and a length byte at each end of its range. -/
theorem witness_ReceiverAndTransmitter :
    State.reset.link.receiver = .hunting ∧ (0xB5 : Byte) ≠ 0xB4 ∧
      (State.reset.modLink fun l => { l with receiver := .inFrame [] }).link.receiver = .inFrame [] ∧
      250 < (251 : Byte).toNat ∧ (250 : Byte).toNat ≤ 250 ∧ 1 ≤ (1 : Byte).toNat ∧
      (State.reset.modLink fun l => { l with receiver := .inFrame [1] }).link.receiver = .inFrame [1] ∧
      ([] : List Byte).length + 2 < (1 : Byte).toNat + 3 ∧ (1 : Byte).toNat + 3 ≤ ([1, 2] : List Byte).length + 2 ∧
      frameCheckPasses [1, 1, 2, 3] = false ∧ answering2.link.answerPending = true ∧
      answering2.link.response = some (responseFrame 0x50 (.accepted [])) ∧ answering2.link.newRate = none ∧
      (answering2.modLink fun l => { l with newRate := some 4 }).link.newRate = some 4 ∧
      (answering2.modLink fun l => { l with receiver := .inFrame [1], newRate := some 4 }).link.receiver =
        .inFrame [1] := by
  decide +kernel

theorem witness_ReportsChangeNothing :
    State.reset.Takes .status ∧ State.reset.Takes .counters ∧ State.reset.Takes (.position (posByte 47)) ∧
      48 ≤ (48 : Byte).toNat ∧ State.reset.Takes (.position 48) := by
  decide +kernel

theorem witness_LayoutsHaveTheirLengths :
    let a := (after (exec .snapshot State.reset)).acct
    (∃ n, a.snapshot = some n) ∧ (a.snapshot.map (·.counts.length)) = some 40 := by
  refine ⟨⟨_, rfl⟩, ?_⟩
  decide +kernel

theorem witness_RecordPeekReturnsOldest :
    State.reset.Takes .recordPeek ∧ State.reset.queue.records = [] ∧ (queued 2 State.reset).Takes .recordPeek ∧
      (queued 2 State.reset).queue.records = record 65472 :: [record 65473] := by
  decide +kernel

theorem witness_TearReadReturnsEntry :
    State.reset.Takes (.tearRead 32) ∧ 31 < (32 : Byte).toNat ∧ (31 : Byte).toNat ≤ 31 ∧
      State.reset.tear.entries.length ≤ (0 : Byte).toNat ∧
      (0 : Byte).toNat < (torn none State.reset).tear.entries.length := by
  decide +kernel

theorem witness_ChangesReturnsLowestMembers :
    State.reset.Takes .changes ∧
      ((State.reset.mapPos fun _ x => { x with changed := true }).changeSet).length = 48 := by
  decide +kernel

/-! ### Witnesses: requests on positions -/

/-- One state for each test of R26 that is the first to fail, in their order, and one that passes them all. -/
def routable (e : TariffEntry) : State :=
  (priced e (one (holding .ready))).modEng 0 fun g => { g with lane := .inService, testTimeLeft := 0 }

def free3 : State := (routable entry).modPos 3 fun x => { x with profile := .free }
def vacant3 : State := (routable entry).modPos 3 fun x => { x with state := .vacant }
def onHook3 : State := (routable entry).modPos 3 fun x => { x with hook := .acceptedAt .on }
def poor3 : State := (routable entry).modPos 3 fun x => { x with remaining := 2 }
def testing3 : State := (routable entry).modEng 0 fun g => { g with lane := .testing }

theorem witness_RouteRefusedByFirstFailingTest :
    let codes := fun s : State => ((routeTests s 3 4).filter fun x => !x.1).head?.map (·.2)
    (routable entry).Takes (.route 48 0) ∧ 48 ≤ (48 : Byte).toNat ∧ (47 : Byte).toNat < 48 ∧ 16 ≤ (16 : Byte).toNat ∧
      codes free3 = some .badClass ∧ codes vacant3 = some .wrongState ∧ codes onHook3 = some .onHook ∧
      codes (routable .undefined) = some .tariffUndefined ∧ codes poor3 = some .insufficient ∧
      codes (queued 64 (routable entry)) = some .queueFull ∧ codes testing3 = some .noEngine ∧
      (3 : Byte) = posByte 3 ∧ (4 : Byte) = BitVec.ofNat 8 (4 : Fin 16).val := by
  decide +kernel

theorem witness_AcceptedRouteStartsCall :
    (∀ e ∈ [entry, freeEntry], let s := routable e
      s.Takes (.route (posByte 3) (BitVec.ofNat 8 (4 : Fin 16).val)) ∧ (∀ x ∈ routeTests s 3 4, x.1 = true) ∧
      (s.pos 3).debt = 0 ∧ (s.pos 3).doubt = none ∧ (s.pos 3).inFlight = none) ∧
      ((routable entry).tariff.active.entry 4 0).period ≠ 0 ∧ ((routable freeEntry).tariff.active.entry 4 0).period = 0 ∧
      (∀ x ∈ routeTests ((routable entry).modPos 3 fun x => { x with remaining := 3 }) 3 4, x.1 = true) := by
  decide +kernel

theorem witness_ReleaseAndBlockOutsideCall :
    State.reset.Takes (.release 48) ∧ ((clearing 1).pos 3).state = .clearing ∧
      (clearing 1).Takes (.release (posByte 3)) ∧ (clearing 1).Takes (.block (posByte 3)) ∧
      ((clearing 0).pos 3).forcedClear = true ∧
      (∀ st ∈ [PosState.vacant, .reading, .refused, .recovering, .ready, .blocked],
        ((one (holding st)).pos 3).state = st ∧ (one (holding st)).Takes (.release (posByte 3)) ∧
          (one (holding st)).Takes (.block (posByte 3))) := by
  decide +kernel

theorem witness_UnblockFreezeAndProfile :
    (let s := one (holding .blocked)
     s.Takes (.unblock (posByte 3)) ∧ (s.pos 3).state = .blocked ∧ (s.pos 3).profile = .card ∧
      (s.pos 3).card.accepted = some .present) ∧
    ((one fun x => { (holding .blocked x) with profile := .free }).pos 3).profile = .free ∧
    ((one fun x => { (holding .blocked x) with card := .acceptedAt .absent }).pos 3).card.accepted ≠ some .present ∧
    ((one fun x => { (holding .blocked x) with profile := .unused }).pos 3).profile = .unused ∧
    (State.reset.pos 3).state ≠ .blocked ∧ State.reset.Takes (.freeze (posByte 3) 1) ∧
    State.reset.Takes (.freeze (posByte 3) 2) ∧ 1 < (2 : Byte).toNat ∧ State.reset.Takes (.profile (posByte 3) 3) ∧
    2 < (3 : Byte).toNat ∧ (one (holding .blocked)).Takes (.profile (posByte 3) 2) ∧
    (2 : Byte) = BitVec.ofNat 8 Profile.unused.code := by
  decide +kernel

/-- A relieved position of a FAULTED lane with auto-relief on. -/
def relieved : State :=
  (one fun x => { x with allocation := .relief, relieved := true }).modEng 0 fun g => { g with lane := .faulted }

theorem witness_AllocateMovesPosition :
    (0 : Byte) = (match Allocation.home with | .home => 0 | .relief => 1) ∧
      (1 : Byte) = (match Allocation.relief with | .home => 0 | .relief => 1) ∧
      1 < (2 : Byte).toNat ∧ relieved.Takes (.allocate (posByte 3) 2) ∧
      relieved.Takes (.allocate (posByte 3) 0) ∧ (relieved.pos 3).inFlight = none ∧
      (relieved.pos 3).allocation ≠ .home ∧ (relieved.eng (homeEngine 3)).lane = .faulted ∧
      (relieved.eng (homeEngine 3)).autoRelief = true ∧ (State.reset.pos 3).allocation = .home ∧
      ((onBus .burn .ready (talking .metering)).pos 3).inFlight ≠ none := by
  decide +kernel

theorem witness_FieldsAboveTheRowAreRefused :
    48 ≤ (48 : Byte).toNat ∧ 4 < (5 : Byte).toNat ∧ State.reset.Takes (.unblock 48) ∧
      State.reset.Takes (.laneTest 5) := by
  decide +kernel

/-! ### Witnesses: requests on engines, on the tariff store, on the queue and the list -/

theorem witness_LaneTestEnableAndDisable :
    (∀ l ∈ [LaneState.testing, .inService, .suspect, .faulted, .disabled],
      let s := State.reset.modEng 4 fun g => { g with lane := l }
      (s.eng 4).lane = l ∧ (s.eng 4).op = none ∧ s.Takes (.laneTest (engByte 4)) ∧ s.Takes (.laneEnable (engByte 4)) ∧
        s.Takes (.laneDisable (engByte 4))) ∧
    ((onBus .burn .ready (talking .metering)).eng 0).op ≠ none ∧
    ((onBus .burn .ready (talking .metering)).eng 0).lane = .inService := by
  decide +kernel

theorem witness_LaneModeSetsEngine :
    State.reset.Takes (.laneMode (engByte 4) (BitVec.ofNat 8 OrderMode.rotating.code) 8 (if false then 1 else 0)) ∧
      1 ≤ (1 : Byte).toNat ∧ (8 : Byte).toNat ≤ 8 ∧ ¬((4 : EngineId) = reliefEngine ∧ false = true) ∧
      State.reset.Takes (.laneMode 4 2 9 1) ∧ 4 < (5 : Byte).toNat ∧ 1 < (2 : Byte).toNat ∧ (0 : Byte).toNat = 0 ∧
      8 < (9 : Byte).toNat := by
  decide +kernel

theorem witness_TariffStageAndCommit :
    State.reset.Takes (.tariffStage (BitVec.ofNat 8 (15 : Fin 16).val) (BitVec.ofNat 8 (3 : Fin 4).val) 1 65535 4 7 1) ∧
      State.reset.Takes (.tariffStage (BitVec.ofNat 8 (15 : Fin 16).val) (BitVec.ofNat 8 (3 : Fin 4).val) 0 0 0 0 0) ∧
      State.reset.Takes (.tariffStage 16 4 2 0 0 8 2) ∧ 15 < (16 : Byte).toNat ∧ 3 < (4 : Byte).toNat ∧
      (4 : Byte).toNat ≤ 4 ∧ (7 : Byte).toNat ≤ 7 ∧ (1 : Byte).toNat ≤ 1 ∧ 4 < (5 : Byte).toNat ∧
      7 < (8 : Byte).toNat ∧ 1 < (2 : Byte).toNat ∧ State.reset.Takes (.tariffCommit 0) ∧
      (0 : Byte) = State.reset.tariff.edition ∧ (255 : Byte) ≠ State.reset.tariff.edition := by
  decide +kernel

theorem witness_TariffCopyStagesActive : State.reset.Takes .tariffCopy := by decide +kernel

theorem witness_TariffReadReturnsEntry :
    State.reset.Takes (.tariffRead 1 15 3) ∧ (15 : Byte) = BitVec.ofNat 8 (15 : Fin 16).val ∧
      (3 : Byte) = BitVec.ofNat 8 (3 : Fin 4).val ∧ (1 : Byte).toNat ≤ 1 ∧ 1 < (2 : Byte).toNat ∧
      15 < (16 : Byte).toNat ∧ 3 < (4 : Byte).toNat := by
  decide +kernel

theorem witness_BandMarksFollowingCalls :
    State.reset.Takes (.band 3) ∧ 3 < (4 : Byte).toNat ∧ (3 : Byte) = BitVec.ofNat 8 (3 : Fin 4).val ∧
      (3 : Fin 4) ≠ State.reset.tariff.band ∧ (0 : Fin 4) = State.reset.tariff.band := by
  decide +kernel

/-- A full queue with positions 3 and 7 waiting for one listed card and position 9 for another. -/
def waiting3 : State :=
  queued 64 (torn none (((one (holding .recovering)).modPos 7 (holding .recovering)).modPos 9 fun x =>
    { (holding .recovering x) with identity := some { card with key := { card.key with serial := 5 } } }))

theorem witness_RecordReleaseFreesPlace :
    (State.reset.Takes (.recordRelease 0) ∧ State.reset.queue.records = []) ∧
    ((queued 64 State.reset).queue.records.head?.map (·.sequence) = some 65472 ∧ State.reset.waitSet = [] ∧
      (65472 : Word16) ≠ 0) ∧
    (let s := waiting3
     s.Takes (.recordRelease 65472) ∧ s.queue.records.head?.map (·.sequence) = some 65472 ∧ s.waitSet = [3, 7, 9] ∧
      (s.pos 3).key = some card.key ∧ s.tearEntry card.key = some (tornEntry none) ∧
      (tornEntry none).inDoubt = none ∧ 0 < (tornEntry none).owed ∧ 0 < (s.pos 3).remaining ∧
      (s.pos 7).key = some card.key ∧ (s.pos 9).key ≠ some card.key) := by
  decide +kernel

theorem witness_TearDeleteWritesOffEntry :
    State.reset.Takes (.tearDelete 0x019C 0x00015FA1) ∧ State.reset.tearEntry card.key = none ∧
      waiting3.tearEntry card.key = some (tornEntry none) ∧ waiting3.Takes (.tearDelete 0x019C 0x00015FA1) := by
  decide +kernel

/-- Every code of SET is taken, and each range has values at both ends and beyond them. -/
theorem witness_SetStoresSetting :
    (∀ c ∈ [(1 : Byte), 2, 3, 4, 5, 6, 7, 8, 0, 9], State.reset.link.answerPending = false ∧ c.toNat ≤ 9) ∧
      (0 : Word16).toNat < 1 ∧ 1 ≤ (1 : Word16).toNat ∧ (7 : Word16).toNat ≤ 7 ∧ 7 < (8 : Word16).toNat ∧
      (9 : Word16).toNat < 10 ∧ 10 ≤ (10 : Word16).toNat ∧ (300 : Word16).toNat ≤ 300 ∧ 300 < (301 : Word16).toNat ∧
      (4 : Word16).toNat < 5 ∧ 5 ≤ (5 : Word16).toNat ∧ (50 : Word16).toNat ≤ 50 ∧ 50 < (51 : Word16).toNat ∧
      (1 : Word16).toNat < 2 ∧ 2 ≤ (2 : Word16).toNat ∧ (8 : Word16).toNat ≤ 8 ∧ 8 < (9 : Word16).toNat ∧
      (3600 : Word16).toNat ≤ 3600 ∧ 3600 < (3601 : Word16).toNat ∧ (0 : Byte).toNat = 0 ∧ 8 < (9 : Byte).toNat := by
  decide +kernel

theorem witness_ClearAlertsAndLinkRate :
    State.reset.Takes (.clearAlerts 0x0700) ∧ State.reset.Takes (.linkRate 5) ∧ 4 < (5 : Byte).toNat ∧
      (4 : Byte) = BitVec.ofNat 8 (4 : Fin 5).val ∧ (4 : Fin 5) ≠ State.reset.link.rate ∧
      (1 : Fin 5) = State.reset.link.rate := by
  decide +kernel

/-- A burning call, a recovery, a waiting position and a relieved position of a FAULTED lane at RESTART. -/
def restarting : State :=
  let s := (onBus .burn .ready (talking .metering)).modPos 5 (recovering true)
  let s := (s.modPos 7 (recovering false)).modEng 1 fun g => { g with lane := .faulted }
  let s := s.modPos 20 fun x =>
    { x with
      allocation := .relief
      pendingAlloc := some .home
      inFlight := some { engine := 4, op := .identify, discard := true } }
  s.modEng 4 fun g =>
    { g with
      lane := .suspect
      disablePending := true
      op := some { position := 20, op := .identify, step := .read, before := 0, key := none } }

theorem witness_RestartBringsPositionsToRest :
    restarting.Takes .restart ∧ restarting.OperationsAgree ∧
      (∀ p, (restarting.pos p).ReservationLaw ∧ (restarting.pos p).ContextLaw) ∧
      ((one (holding .blocked)).pos 3).state = .blocked ∧
      ((one fun x => { (reading 0 x) with blockPending := true }).pos 3).blockPending = true ∧
      (State.reset.modLink fun l => { l with tearEvicted := true }).link.tearEvicted = true := by
  refine ⟨by decide +kernel, ⟨?_, ?_⟩, ?_, by decide +kernel⟩
  · have h : ∀ e, ((restarting.eng e).op.all fun op =>
        decide (((restarting.pos op.position).inFlight.map fun f => (f.engine, f.op)) = some (e, op.op) ∧
          (restarting.eng e).lane ∈ [.inService, .suspect])) = true := by decide +kernel
    intro e op ho
    have := h e
    rw [ho, Option.all_some, decide_eq_true_eq, Option.map_eq_some_iff] at this
    obtain ⟨⟨f, hf, hg⟩, hl⟩ := this
    exact ⟨⟨f, hf, congrArg (·.1) hg, congrArg (·.2) hg⟩, hl⟩
  · have h : ∀ p, ((restarting.pos p).inFlight.all fun f =>
        decide (((restarting.eng f.engine).op.map fun o => (o.position, o.op)) = some (p, f.op))) = true := by
      decide +kernel
    intro p f hf
    have := h p
    rw [hf, Option.all_some, decide_eq_true_eq, Option.map_eq_some_iff] at this
    obtain ⟨o, ho, hg⟩ := this
    exact ⟨o, ho, congrArg (·.1) hg, congrArg (·.2) hg⟩
  · unfold Position.ReservationLaw Position.ContextLaw
    decide +kernel

/-- Candidates of every class at E0, under both order modes. -/
def contended (m : OrderMode) : State :=
  (((State.reset.modPos 2 fun x => { x with pendingOp := some .identify }).modPos 5 fun x =>
    { x with pendingOp := some .burn, debt := 3 }).modPos 8 fun x =>
    { x with pendingOp := some .burn, debt := 3 }).modEng 0 fun g => { g with mode := m, pointer := 7 }

theorem witness_ArbiterServesHighestClass :
    (contended .fixed).choose 0 = some 5 ∧ (contended .rotating).choose 0 = some 8 ∧
      ((contended .rotating).eng 0).pointer < busSize 0 ∧ (State.reset.candidates 0) = [] ∧
      (let s := (contended .fixed).modEng 0 fun g => { g with lane := .suspect }
       (s.eng 0).lane ∈ [.inService, .suspect] ∧ (s.eng 0).disablePending = false ∧ (s.eng 0).op = none ∧
        s.choose 0 = some 5 ∧ (s.pos 5).pendingOp = some .burn) := by
  decide +kernel

/-! ### Witnesses: headline statements -/

theorem witness_DecodeReadsEncodedRequest :
    isRequest (.tearDelete 1 2) = true ∧ (Instr.tearDelete 1 2).WellFormed = true ∧
      isRequest (.unknownRequest 0x7F [1]) = true ∧ (Instr.unknownRequest 0x7F [1]).WellFormed = true ∧
      State.reset.link.receiver = .hunting ∧ State.reset.link.answerPending = false := by
  decide +kernel

theorem witness_RefusedRequestChangesNothing :
    let t := after (exec (.release 3) State.reset)
    isRequest (.release 3) = true ∧ State.reset.Takes (.release 3) ∧ (Instr.release 3).WellFormed = true ∧
      exec (.release 3) State.reset = .next t ∧
      t.link.response = some (responseFrame (requestType (.release 3)) (.refused .wrongState)) := by
  refine ⟨?_, ?_, ?_, rfl, ?_⟩ <;> decide +kernel

/-- The premises of the laws hold in a state with calls, entries and records. -/
theorem witness_laws :
    let s := queued 3 (torn (some 20) (one (talking .metering)))
    (∀ p, (s.pos p).OutputsFollow) ∧ s.SettingsInRange ∧ (∀ p, (s.pos p).debt ≤ 7) ∧ s.tear.Sound ∧
      s.queue.Consecutive ∧ ∃ t, step s = .next t := by
  refine ⟨?_, ?_, ?_, ?_, ?_, ⟨_, rfl⟩⟩ <;> decide +kernel

/-- A state other than reset is reachable. -/
theorem witness_Reachable :
    Reachable (after (step { State.reset with pending := State.reset.pending ++ [.busTestEnd 0 true] })) :=
  .step _ _ (.arrive _ (.busTestEnd 0 true) .reset) rfl

end Sys2Proof.Tests
end

section
/-!
PROOFS. The tariff store's requests (03): what each owner's rule answers, and the statements about TARIFF STAGE, COPY,
COMMIT and READ and about BAND. Each command is its rule run by `State.request`, so each statement is the answer of the
rule, carried through `exec_of_owner`.
-/

namespace Sys2Proof.Machine

/-! ### A request and its owner's answer -/

/-- A request its owner takes leaves the state the owner gives, with the owner's reply in transmission (R155). -/
theorem exec_of_owner {s t : State} {i : Instr} {r : Reply} {owner : State → State × Reply}
    (hx : exec i s = .next (s.request i owner)) (ht : s.Takes i) (ho : owner s = (t, r)) :
    exec i s = .next (t.answered i r) := by
  rw [hx, State.request_of_takes ht, ho]

theorem exec_tariffStage (cls band defined : Byte) (period : Word16) (step initial follow : Byte) (s : State) :
    exec (.tariffStage cls band defined period step initial follow) s =
      .next (s.request (.tariffStage cls band defined period step initial follow)
        (tariffStageRule cls band defined period step initial follow)) := rfl

theorem exec_tariffCopy (s : State) : exec .tariffCopy s = .next (s.request .tariffCopy tariffCopyRule) := rfl

theorem exec_tariffCommit (n : Byte) (s : State) :
    exec (.tariffCommit n) s = .next (s.request (.tariffCommit n) (tariffCommitRule n)) := rfl

theorem exec_tariffRead (sel cls b : Byte) (s : State) :
    exec (.tariffRead sel cls b) s = .next (s.request (.tariffRead sel cls b) (tariffReadRule sel cls b)) := rfl

theorem exec_band (b : Byte) (s : State) : exec (.band b) s = .next (s.request (.band b) (bandRule b)) := rfl

/-! ### Operands -/

/-- A byte of at most 1 is one of the two marks. -/
theorem byte_eq_zero_or_one {b : Byte} (h : b.toNat ≤ 1) : b = 0 ∨ b = 1 := by
  bv_omega

theorem markOf_one : markOf 1 = some true := rfl

theorem markOf_eq_some {b : Byte} (h : b.toNat ≤ 1) : markOf b = some (decide (b = 1)) := by
  obtain rfl | rfl := byte_eq_zero_or_one h <;> rfl

theorem tableOf_eq_some {sel : Byte} (h : sel.toNat ≤ 1) (t : TariffStore) :
    tableOf t sel = some (if sel = 0 then t.active else t.staged) := by
  obtain rfl | rfl := byte_eq_zero_or_one h <;> rfl

theorem tableOf_eq_none {sel : Byte} (h : 1 < sel.toNat) (t : TariffStore) : tableOf t sel = none := by
  have h0 : sel ≠ 0 := by rintro rfl; simp at h
  have h1 : sel ≠ 1 := by rintro rfl; simp at h
  rw [tableOf, if_neg h0, if_neg h1]

/-! ### The staged entry and the staged table -/

/-- Reading a table after one entry was replaced. -/
theorem TariffTable.entry_put (t : TariffTable) (c c2 : Fin 16) (b b2 : Fin 4) (e : TariffEntry) :
    (t.put c b e).entry c2 b2 = if c2 = c ∧ b2 = b then e else t.entry c2 b2 := by
  unfold TariffTable.put TariffTable.entry
  by_cases hc : c2 = c
  · subst hc
    simp only [Vector.getElem_set_self, Vector.getElem_set, Fin.val_inj, true_and, eq_comm (a := b)]
  · rw [Vector.getElem_set_ne _ _ (by simpa [Fin.val_inj, eq_comm] using hc), if_neg (by simp [hc])]

/-- With defined no the other fields are not looked at (R47). -/
theorem stagedEntry_undefined (period : Word16) (step initial follow : Byte) :
    stagedEntry 0 period step initial follow =
      some { defined := false, period := 0, step := 1, initial := 0, follow := false } := rfl

theorem stagedEntry_defined {step initial follow : Byte} (period : Word16)
    (h : 1 ≤ step.toNat ∧ step.toNat ≤ 4 ∧ initial.toNat ≤ 7) (hf : follow.toNat ≤ 1) :
    stagedEntry 1 period step initial follow =
      some { defined := true, period := period, step := step.toNat, initial := initial.toNat,
             follow := follow = 1 } := by
  simp only [stagedEntry, markOf_one, markOf_eq_some hf, if_pos h]

theorem stagedEntry_eq_none {defined step initial follow : Byte} (period : Word16)
    (h : 1 < defined.toNat ∨
      (defined = 1 ∧ (1 < follow.toNat ∨ step.toNat = 0 ∨ 4 < step.toNat ∨ 7 < initial.toNat))) :
    stagedEntry defined period step initial follow = none := by
  obtain hd | ⟨rfl, h⟩ := h
  · simp only [stagedEntry, markOf_eq_none hd]
  · by_cases hf : 1 < follow.toNat
    · simp only [stagedEntry, markOf_one, markOf_eq_none hf]
    · have hr : ¬(1 ≤ step.toNat ∧ step.toNat ≤ 4 ∧ initial.toNat ≤ 7) := by omega
      simp only [stagedEntry, markOf_one, markOf_eq_some (Nat.le_of_not_lt hf), if_neg hr]

/-! ### What the owners answer -/

theorem tariffStageRule_accept {cls band defined step initial follow : Byte} {period : Word16} {c : Fin 16}
    {b : Fin 4} {e : TariffEntry} (s : State) (hc : classOf cls = some c) (hb : bandOf band = some b)
    (he : stagedEntry defined period step initial follow = some e) :
    tariffStageRule cls band defined period step initial follow s =
      ({ s with tariff := { s.tariff with staged := s.tariff.staged.put c b e } }, .accepted []) := by
  simp only [tariffStageRule, hc, hb, he, accept, State.modTariff]

theorem tariffStageRule_refuse {cls band defined step initial follow : Byte} {period : Word16} (s : State)
    (h : classOf cls = none ∨ bandOf band = none ∨ stagedEntry defined period step initial follow = none) :
    tariffStageRule cls band defined period step initial follow s = (s, .refused .badValue) := by
  unfold tariffStageRule
  split
  next hc hb he => simp [hc, hb, he] at h
  next => rfl

theorem tariffCopyRule_accept (s : State) :
    tariffCopyRule s = ({ s with tariff := { s.tariff with staged := s.tariff.active } }, .accepted []) := rfl

theorem tariffReadRule_accept {sel cls band : Byte} {t : TariffTable} {c : Fin 16} {b : Fin 4} (s : State)
    (ht : tableOf s.tariff sel = some t) (hc : classOf cls = some c) (hb : bandOf band = some b) :
    tariffReadRule sel cls band s =
      (s, .accepted (tariffFields (t.entry c b) s.tariff.edition s.tariff.band)) := by
  simp only [tariffReadRule, ht, hc, hb]

theorem tariffReadRule_refuse {sel cls band : Byte} (s : State)
    (h : tableOf s.tariff sel = none ∨ classOf cls = none ∨ bandOf band = none) :
    tariffReadRule sel cls band s = (s, .refused .badValue) := by
  unfold tariffReadRule
  split
  next ht hc hb => simp [ht, hc, hb] at h
  next => rfl

theorem tariffCommitRule_same (s : State) :
    tariffCommitRule s.tariff.edition s = (s, .refused .badValue) := if_pos rfl

theorem tariffCommitRule_new {s : State} {n : Byte} (h : n ≠ s.tariff.edition) :
    tariffCommitRule n s =
      ({ s with tariff := { s.tariff with active := s.tariff.staged, edition := n } }, .accepted []) := if_neg h

/-! ### The marking of band-follow calls -/

theorem PosState.metered_iff (st : PosState) : st.metered = true ↔ st = .metering ∨ st = .lastUnit := by
  cases st <;> simp [PosState.metered]

theorem Call.markBand_eq (c : Call) :
    c.markBand = if c.tariff.map (·.follow) = some true then { c with bandPending := true } else c := by
  unfold Call.markBand
  cases h : c.tariff with
  | none => simp
  | some t => simp

/-- What a change of band does to one position (R52). -/
def Position.bandChanged (x : Position) : Position :=
  if x.state = .metering ∨ x.state = .lastUnit then
    { x with call := x.call.map fun c =>
      if c.tariff.map (·.follow) = some true then { c with bandPending := true } else c }
  else x

theorem Position.bandChanged_eq (x : Position) :
    (if x.state.metered then x.mapCall (·.markBand) else x) = x.bandChanged := by
  simp only [Position.bandChanged, Position.mapCall, PosState.metered_iff, Call.markBand_eq]

theorem bandRule_refuse {b : Byte} (h : 3 < b.toNat) (s : State) : bandRule b s = (s, .refused .badValue) := by
  simp only [bandRule, bandOf_eq_none h, refuse]

theorem bandRule_same (s : State) :
    bandRule (BitVec.ofNat 8 s.tariff.band.val) s = (s, .accepted []) := by
  simp only [bandRule, bandOf_ofNat, if_true, accept]

theorem bandRule_new {s : State} {n : Fin 4} (h : n ≠ s.tariff.band) :
    bandRule (BitVec.ofNat 8 n.val) s =
      (({ s with tariff := { s.tariff with band := n } } : State).mapPos fun _ x => x.bandChanged,
        .accepted []) := by
  simp only [bandRule, bandOf_ofNat, if_neg h, accept, Position.bandChanged_eq, State.modTariff]

/-! ### The statements -/

/-- Settles O41: the staged entry and the commit are what their rules answer, and a put table is read entry by entry. -/
theorem tariffStageAndCommit : Obligations.TariffStageAndCommit := by
  unfold Obligations.TariffStageAndCommit
  refine ⟨fun s c b period step initial follow => ⟨?_, ?_, ?_⟩, ?_, fun s n ht => ⟨?_, fun hn => ?_⟩⟩
  · intro i ht ⟨hlo, hhi, hin, hf⟩
    exact exec_of_owner (exec_tariffStage ..) ht (tariffStageRule_accept s (classOf_ofNat c) (bandOf_ofNat b)
      (stagedEntry_defined period ⟨hlo, hhi, hin⟩ hf))
  · intro i ht
    exact exec_of_owner (exec_tariffStage ..) ht (tariffStageRule_accept s (classOf_ofNat c) (bandOf_ofNat b)
      (stagedEntry_undefined period step initial follow))
  · exact fun e c2 b2 => TariffTable.entry_put _ c c2 b b2 e
  · intro s cls band defined period step initial follow i ht h
    have hnone : classOf cls = none ∨ bandOf band = none ∨
        stagedEntry defined period step initial follow = none := by
      obtain hc | hb | he := h
      · exact .inl (classOf_eq_none hc)
      · exact .inr (.inl (bandOf_eq_none hb))
      · exact .inr (.inr (stagedEntry_eq_none period he))
    exact exec_of_owner (exec_tariffStage ..) ht (tariffStageRule_refuse s hnone)
  · rintro rfl
    exact exec_of_owner (exec_tariffCommit ..) ht (tariffCommitRule_same s)
  · exact exec_of_owner (exec_tariffCommit ..) ht (tariffCommitRule_new hn)

/-- Settles O44: a byte above 3 names no band, the current band changes nothing, and another one marks each metered
position as `Position.bandChanged` says. -/
theorem bandMarksFollowingCalls : Obligations.BandMarksFollowingCalls := by
  unfold Obligations.BandMarksFollowingCalls
  intro s b ht
  refine ⟨fun hb => exec_of_owner (exec_band ..) ht (bandRule_refuse hb s), ?_⟩
  rintro n rfl
  refine ⟨?_, fun hn => exec_of_owner (exec_band ..) ht (bandRule_new hn)⟩
  rintro rfl
  exact exec_of_owner (exec_band ..) ht (bandRule_same s)

/-- Settles O42: the rule of TARIFF COPY is this one change of the tariff store. -/
theorem tariffCopyStagesActive : Obligations.TariffCopyStagesActive := by
  unfold Obligations.TariffCopyStagesActive
  exact fun s ht => exec_of_owner (exec_tariffCopy s) ht (tariffCopyRule_accept s)

/-- Settles O43: a table, class and band that are named select the entry; where one names nothing the rule refuses. -/
theorem tariffReadReturnsEntry : Obligations.TariffReadReturnsEntry := by
  unfold Obligations.TariffReadReturnsEntry
  intro s sel cls b ht
  refine ⟨?_, fun h => ?_⟩
  · rintro c k rfl rfl hsel
    rw [exec_of_owner (exec_tariffRead ..) ht (tariffReadRule_accept s (tableOf_eq_some hsel s.tariff)
      (classOf_ofNat c) (bandOf_ofNat k)), apply_ite (TariffTable.entry · c k)]
    rfl
  · have hnone : tableOf s.tariff sel = none ∨ classOf cls = none ∨ bandOf b = none := by
      obtain hsel | hc | hb := h
      · exact .inl (tableOf_eq_none hsel s.tariff)
      · exact .inr (.inl (classOf_eq_none hc))
      · exact .inr (.inr (bandOf_eq_none hb))
    exact exec_of_owner (exec_tariffRead ..) ht (tariffReadRule_refuse s hnone)

end Sys2Proof.Machine
end

section
/-!
PROOFS. The station's requests on the tear list (07): what the owner's rules of TEAR READ and TEAR DELETE answer, and
the statements about them, each carried through `exec_of_owner`.
-/

namespace Sys2Proof.Machine

theorem exec_tearRead (i : Byte) (s : State) :
    exec (.tearRead i) s = .next (s.request (.tearRead i) (tearReadRule i)) := rfl

theorem exec_tearDelete (series : Word16) (serial : Word32) (s : State) :
    exec (.tearDelete series serial) s =
      .next (s.request (.tearDelete series serial) (tearDeleteRule series serial)) := rfl

/-! ### What the tear list answers a read -/

theorem tearReadRule_badValue {i : Byte} (h : 31 < i.toNat) (s : State) :
    tearReadRule i s = (s, .refused .badValue) := if_pos h

theorem tearReadRule_notFound {s : State} {i : Byte} (hi : i.toNat ≤ 31) (h : s.tear.entries.length ≤ i.toNat) :
    tearReadRule i s = (s, .refused .notFound) := by
  have hr : ¬Config.tearPlaces ≤ i.toNat := Nat.not_le.mpr (Nat.lt_succ_of_le hi)
  simp only [tearReadRule, if_neg hr, List.getElem?_eq_none h, refuse]

theorem tearReadRule_accept {s : State} {i : Byte} (hi : i.toNat ≤ 31) (h : i.toNat < s.tear.entries.length) :
    tearReadRule i s =
      (s, .accepted ([BitVec.ofNat 8 s.tear.entries.length] ++ tearEntryBytes (s.tear.entries[i.toNat]'h))) := by
  have hr : ¬Config.tearPlaces ≤ i.toNat := Nat.not_le.mpr (Nat.lt_succ_of_le hi)
  simp only [tearReadRule, if_neg hr, List.getElem?_eq_getElem h, byte1]

/-! ### An entry written off -/

/-- An entry carries its owed, and 1 more where it holds a unit in doubt (R116, R132). -/
theorem TearEntry.total_eq (t : TearEntry) : t.total = t.owed + if t.inDoubt = none then 0 else 1 := by
  cases h : t.inDoubt <;> simp [TearEntry.total, h]

/-- The entry of a key has left the list and its units are written off; the positions that waited for it are released
(R126, R132). -/
def State.writingOff (s : State) (k : CardKey) (t : TearEntry) : State :=
  { (s.mapPos fun _ x => x.released k) with
    tear := { s.tear with entries := s.tear.entries.filter fun x => x.key ≠ k }
    acct := s.acct.plusWrittenOff (t.owed + if t.inDoubt = none then 0 else 1) }

theorem State.releaseWaiters_remove (s : State) (k : CardKey) (t : TearEntry) :
    ((s.modTear (·.remove k)).reportWrittenOff t.total).releaseWaiters k = s.writingOff k t := by
  rw [State.releaseWaiters_eq, TearEntry.total_eq]
  rfl

theorem tearDeleteRule_notFound {s : State} {series : Word16} {serial : Word32}
    (h : s.tearEntry { series := series, serial := serial } = none) :
    tearDeleteRule series serial s = (s, .refused .notFound) := by
  simp only [tearDeleteRule, h, refuse]

theorem tearDeleteRule_accept {s : State} {series : Word16} {serial : Word32} {t : TearEntry}
    (h : s.tearEntry { series := series, serial := serial } = some t) :
    tearDeleteRule series serial s = (s.writingOff { series := series, serial := serial } t, .accepted []) := by
  simp only [tearDeleteRule, h, accept, State.releaseWaiters_remove]

/-! ### The statements -/

/-- Settles O46: an unlisted key finds no entry to delete, and a listed one leaves the state that
`State.writingOff` gives, where the statement writes `Position.released` out. -/
theorem tearDeleteWritesOffEntry : Obligations.TearDeleteWritesOffEntry := by
  unfold Obligations.TearDeleteWritesOffEntry
  intro s series serial ht
  exact ⟨fun h => exec_of_owner (exec_tearDelete ..) ht (tearDeleteRule_notFound h),
    fun t0 h => exec_of_owner (exec_tearDelete ..) ht (tearDeleteRule_accept h)⟩

/-- Settles O31: the index is out of range, past the last entry, or that of an entry. -/
theorem tearReadReturnsEntry : Obligations.TearReadReturnsEntry := by
  unfold Obligations.TearReadReturnsEntry
  intro s i ht
  refine ⟨fun h => ?_, fun hi h => ?_, fun h hi => ?_⟩
  · exact exec_of_owner (exec_tearRead ..) ht (tearReadRule_badValue h s)
  · exact exec_of_owner (exec_tearRead ..) ht (tearReadRule_notFound hi h)
  · exact exec_of_owner (exec_tearRead ..) ht (tearReadRule_accept hi h)

end Sys2Proof.Machine
end

section
/-!
PROOFS. The station's requests on the record queue (08): what the owner's rule of RECORD PEEK answers, and the statement
about it, carried through `exec_of_owner`.
-/

namespace Sys2Proof.Machine

theorem exec_recordPeek (s : State) : exec .recordPeek s = .next (s.request .recordPeek recordPeekRule) := rfl

/-! ### What the record queue answers a peek -/

/-- Reservations held do not count as records (R142). -/
theorem recordPeekRule_empty {s : State} (h : s.queue.records = []) : recordPeekRule s = (s, .refused .empty) := by
  simp only [recordPeekRule, h, refuse]

/-- The oldest record stands first in the queue; the owner leaves the state as it was (R142). -/
theorem recordPeekRule_accept {s : State} {r : CallRecord} {rest : List CallRecord}
    (h : s.queue.records = r :: rest) :
    recordPeekRule s =
      (s, .accepted ([BitVec.ofNat 8 s.queue.records.length] ++ [BitVec.ofNat 8 s.reservations] ++
        recordBytes r)) := by
  simp only [recordPeekRule, h, byte1]

/-! ### The statement -/

/-- Settles O30: the queue is empty or has an oldest record, and in both cases the owner gives the state back. -/
theorem recordPeekReturnsOldest : Obligations.RecordPeekReturnsOldest := by
  unfold Obligations.RecordPeekReturnsOldest
  intro s ht
  refine ⟨fun h => ?_, fun r rest h => ?_⟩
  · exact exec_of_owner (exec_recordPeek s) ht (recordPeekRule_empty h)
  · exact exec_of_owner (exec_recordPeek s) ht (recordPeekRule_accept h)

end Sys2Proof.Machine
end

section
/-!
PROOFS. The laws that every change of the state keeps by itself: the outputs and the ranges of the settings, the debts
and the tear list, the sequences of the record queue. `State.Keeps` packages the four, each as an implication, so that
one walk over the shared operations and the commands serves the statements about all of them.
-/

namespace Sys2Proof.Machine

/-! ### The relations -/

/-- The debts within the ceiling and the tear list sound (R65, R116). -/
def State.Bounded (s : State) : Prop := (∀ p, (s.pos p).debt ≤ 7) ∧ s.tear.Sound

/-- A change of one position keeps the law of its outputs and the ceiling of its debt. -/
def Position.Keeps (x y : Position) : Prop := (x.OutputsFollow → y.OutputsFollow) ∧ (x.debt ≤ 7 → y.debt ≤ 7)

/-- A change of the state keeps each of the four laws. -/
structure State.Keeps (s t : State) : Prop where
  outputs : (∀ p, (s.pos p).OutputsFollow) → ∀ p, (t.pos p).OutputsFollow
  ranges : s.SettingsInRange → t.SettingsInRange
  bounded : s.Bounded → t.Bounded
  consecutive : s.queue.Consecutive → t.queue.Consecutive

theorem Position.Keeps.refl (x : Position) : x.Keeps x := ⟨id, id⟩

theorem Position.Keeps.trans {x y z : Position} (h1 : x.Keeps y) (h2 : y.Keeps z) : x.Keeps z :=
  ⟨h2.1 ∘ h1.1, h2.2 ∘ h1.2⟩

/-- The outputs follow the new state, and the debt stays. -/
theorem Position.Keeps.of_outputs {x y : Position} (h1 : y.OutputsFollow) (h2 : y.debt = x.debt) : x.Keeps y :=
  ⟨fun _ => h1, fun h => h2 ▸ h⟩

theorem State.Keeps.refl (s : State) : s.Keeps s := ⟨id, id, id, id⟩

theorem State.Keeps.trans {s t u : State} (h1 : s.Keeps t) (h2 : t.Keeps u) : s.Keeps u :=
  ⟨h2.outputs ∘ h1.outputs, h2.ranges ∘ h1.ranges, h2.bounded ∘ h1.bounded, h2.consecutive ∘ h1.consecutive⟩

theorem State.Keeps.of_eq {s t : State} (h : s = t) : s.Keeps t := h ▸ .refl s

/-- A change of the positions alone, each of which keeps its laws. -/
theorem State.Keeps.of_positions {s t : State} (hp : ∀ p, (s.pos p).Keeps (t.pos p)) (hd : t.depths = s.depths)
    (hs : t.settings = s.settings) (hi : t.acct.interval = s.acct.interval) (ht : t.tear.entries = s.tear.entries)
    (hq : t.queue = s.queue) : s.Keeps t where
  outputs h p := (hp p).1 (h p)
  ranges h := by unfold State.SettingsInRange; rw [hd, hs, hi]; exact h
  bounded h := ⟨fun p => (hp p).2 (h.1 p), by unfold TearList.Sound; rw [ht]; exact h.2⟩
  consecutive h := hq ▸ h

/-- A change outside the positions, the settings, the tear entries and the queue. -/
theorem State.Keeps.of_frame {s t : State} (hp : t.positions = s.positions) (hd : t.depths = s.depths)
    (hs : t.settings = s.settings) (hi : t.acct.interval = s.acct.interval) (ht : t.tear.entries = s.tear.entries)
    (hq : t.queue = s.queue) : s.Keeps t :=
  .of_positions (fun p => State.pos_congr hp p ▸ .refl _) hd hs hi ht hq

/-! ### What a charge, a burned unit and a CARD_FAULT do to the position -/

/-- A charge at the position (R66). -/
def Position.charged (n : Nat) (x : Position) : Position := { (x.mapCall (·.charge n)) with debt := x.debt + n }

/-- A unit counted as burned at the position (R74). -/
def Position.unitBurned (x : Position) : Position :=
  { (x.mapUnits fun u => { u with burned := u.burned + 1 }) with debt := x.debt - 1, retry := 0 }

/-- A debt written off at the position (R78). -/
def Position.debtLost (x : Position) : Position :=
  { (x.mapUnits fun u => { u with writtenOff := u.writtenOff + x.debt }) with
    debt := 0, doubt := none, faulty := true, retry := 0, cardLost := false }

/-- A debt written off, and counted (R78). -/
def State.debtLost (s : State) (p : PosId) : State := (s.modPos p (·.debtLost)).reportWrittenOff (s.pos p).debt

theorem State.charge_def (s : State) (p : PosId) (n : Nat) :
    s.charge p n = (s.modPos p (·.charged n)).reportCharged n := rfl

theorem State.unitBurned_def (s : State) (p : PosId) :
    s.unitBurned p = (s.modPos p (·.unitBurned)).reportBurned 1 := rfl

/-- What a CARD_FAULT brings in each state (R78, R37, R119, R130). -/
theorem State.cardFault_def (s : State) (p : PosId) :
    s.cardFault p =
      match (s.pos p).state with
      | .metering | .lastUnit => (s.debtLost p).endCall p .cardFault
      | .recovering =>
        ((s.debtLost p).closeRecovery p .cardFault).modPos p fun y =>
          if (s.pos p).cardLost then y.arriveVacant else y.arriveRefused .faulty
      | .vacant | .reading | .refused | .ready | .routed | .freeCall | .clearing | .blocked => s.debtLost p := rfl

/-! ### Changes of one position -/

/-- Forced clear and tone off, and line enable as the state has it. -/
theorem Position.OutputsFollow.of_off {x : Position} (h1 : x.lineEnable = x.state.inCall) (h2 : x.forcedClear = false)
    (h3 : x.tone = false) : x.OutputsFollow := ⟨h1, by simp [h2], by simp [h3]⟩

theorem Position.enter_outputs (st : PosState) (x : Position) : (x.enter st).OutputsFollow := by
  unfold Position.enter
  exact .of_off rfl rfl rfl

theorem Position.enter_keeps (st : PosState) (x : Position) : x.Keeps (x.enter st) :=
  .of_outputs (x.enter_outputs st) rfl

theorem Position.forgetCard_keeps (x : Position) : x.Keeps x.forgetCard := ⟨id, id⟩

theorem Position.arriveBlocked_keeps (x : Position) : x.Keeps x.arriveBlocked :=
  .of_outputs (x.forgetCard.enter_outputs .blocked) rfl

theorem Position.startReading_keeps (x : Position) : x.Keeps x.startReading :=
  .of_outputs (x.enter_outputs .reading) rfl

theorem Position.arriveVacant_keeps (x : Position) : x.Keeps x.arriveVacant := by
  unfold Position.arriveVacant
  split
  · exact x.arriveBlocked_keeps
  · dsimp only
    split
    · exact .of_outputs (Position.enter_outputs .reading _) rfl
    · exact .of_outputs (x.forgetCard.enter_outputs .vacant) rfl

theorem Position.arriveRefused_keeps (why : RefusalCause) (x : Position) : x.Keeps (x.arriveRefused why) := by
  unfold Position.arriveRefused
  split
  · exact x.arriveBlocked_keeps
  · exact .of_outputs (x.enter_outputs .refused) rfl

theorem Position.arriveReadyUnlisted_keeps (x : Position) : x.Keeps x.arriveReadyUnlisted := by
  unfold Position.arriveReadyUnlisted
  split
  · exact x.arriveBlocked_keeps
  · exact x.enter_keeps .ready

theorem Position.leaveWait_keeps (x : Position) : x.Keeps x.leaveWait := by
  unfold Position.leaveWait
  split
  · exact x.arriveRefused_keeps .empty
  · exact x.arriveReadyUnlisted_keeps

theorem Position.enterLastUnit_keeps (x : Position) : x.Keeps x.enterLastUnit :=
  .of_outputs ⟨rfl, fun h => absurd (show false = true from h) nofun, fun _ => rfl⟩ rfl

theorem Position.enterClearing_keeps (wait : Nat) (x : Position) : x.Keeps (x.enterClearing wait) := by
  unfold Position.enterClearing
  dsimp only
  split
  · exact x.enter_keeps .clearing
  · exact .of_outputs ⟨rfl, fun _ => rfl, fun h => absurd (show false = true from h) nofun⟩ rfl

theorem Position.mapCall_keeps (f : Call → Call) (x : Position) : x.Keeps (x.mapCall f) := ⟨id, id⟩

theorem Position.mapUnits_keeps (f : Units → Units) (x : Position) : x.Keeps (x.mapUnits f) := by
  unfold Position.mapUnits
  split <;> exact ⟨id, id⟩

theorem Position.mapUnits_debt (f : Units → Units) (x : Position) : (x.mapUnits f).debt = x.debt := by
  unfold Position.mapUnits
  split <;> rfl

/-- The counts of units move; the debt goes to a value at most the one before. -/
theorem Position.mapUnits_settle_keeps (f : Units → Units) (x : Position) {y : Position}
    (h1 : (x.mapUnits f).OutputsFollow → y.OutputsFollow) (h2 : y.debt ≤ x.debt) : x.Keeps y :=
  ⟨h1 ∘ (x.mapUnits_keeps f).1, Nat.le_trans h2⟩

theorem Position.lastUnitTest_keeps (x : Position) : x.Keeps x.lastUnitTest := by
  unfold Position.lastUnitTest
  split
  · exact .refl x
  · split
    · exact x.enterLastUnit_keeps
    · exact .refl x

theorem Position.reload_keeps (x : Position) : x.Keeps x.reload := by
  unfold Position.reload
  split <;> exact ⟨id, id⟩

theorem Position.startMetering_keeps (period : Nat) (x : Position) : x.Keeps (x.startMetering period) :=
  .of_outputs (x.enter_outputs .metering) rfl

theorem Position.refrozen_keeps {x y : Position} (h : x.Keeps y) : x.Keeps (x.refrozen y) := by
  unfold Position.refrozen
  split <;> exact h

theorem Position.takeOver_keeps (t : TearEntry) (now : Word32) (x : Position) : x.Keeps (x.takeOver t now) :=
  ⟨id, fun _ => Nat.le_trans (Nat.min_le_right _ _) (Nat.min_le_left _ _)⟩

theorem Position.misread_keeps (x : Position) : x.Keeps x.misread := by
  unfold Position.misread
  split
  · exact Position.Keeps.trans (y := { x with retry := 0 }) ⟨id, id⟩ (Position.arriveRefused_keeps ..)
  · exact ⟨id, id⟩

theorem Position.unblock_keeps (x : Position) : x.Keeps x.unblock := by
  unfold Position.unblock
  split
  · exact x.startReading_keeps
  · exact x.enter_keeps .vacant

theorem Position.abandon_keeps (op : CardOp) (x : Position) : x.Keeps (x.abandon op) := by
  unfold Position.abandon
  dsimp only
  split <;> exact ⟨id, id⟩

theorem Position.restartCause_keeps (now : Word32) (x : Position) : x.Keeps (x.restartCause now) := by
  unfold Position.restartCause
  split
  · exact .refl x
  · exact x.mapCall_keeps _

theorem Position.restart_keeps (x : Position) : x.Keeps x.restart := by
  refine ⟨fun _ => .of_off ?_ rfl rfl, fun _ => Nat.zero_le _⟩
  unfold Position.restart
  dsimp only
  split <;> rfl

/-! ### Changes of the state's parts -/

theorem State.modPos_keeps {s : State} {p : PosId} {f : Position → Position} (h : (s.pos p).Keeps (f (s.pos p))) :
    s.Keeps (s.modPos p f) := by
  refine .of_positions (fun q => ?_) rfl rfl rfl rfl rfl
  rw [State.modPos_pos]
  split
  · next hq => exact hq ▸ h
  · exact .refl _

theorem State.mapPos_keeps {s : State} {f : PosId → Position → Position} (h : ∀ p x, Position.Keeps x (f p x)) :
    s.Keeps (s.mapPos f) :=
  .of_positions (fun q => by rw [State.mapPos_pos]; exact h q _) (s.mapPos_depths f) (s.mapPos_settings f)
    (by rw [State.mapPos_acct]) (by rw [State.mapPos_tear]) (s.mapPos_queue f)

theorem State.UpToGrants.keeps {s t : State} (h : s.UpToGrants t) : s.Keeps t :=
  .of_positions (fun q => by rw [h.pos q]; exact ⟨id, id⟩) h.depths h.settings h.interval (by rw [h.tear]) h.queue

theorem State.modEng_keeps (s : State) (e : EngineId) (f : Engine → Engine) : s.Keeps (s.modEng e f) :=
  .of_frame rfl rfl rfl rfl rfl rfl

theorem State.modLink_keeps (s : State) (f : Link → Link) : s.Keeps (s.modLink f) := .of_frame rfl rfl rfl rfl rfl rfl

theorem State.modTariff_keeps (s : State) (f : TariffStore → TariffStore) : s.Keeps (s.modTariff f) :=
  .of_frame rfl rfl rfl rfl rfl rfl

theorem State.modTotals_keeps (s : State) (f : Totals → Totals) : s.Keeps (s.modTotals f) :=
  .of_frame rfl rfl rfl rfl rfl rfl

theorem State.modGlobal_keeps (s : State) (f : GlobalCounts → GlobalCounts) : s.Keeps (s.modGlobal f) :=
  .of_frame rfl rfl rfl rfl rfl rfl

theorem State.modCounts_keeps (s : State) (e : EngineId) (f : EngineCounts → EngineCounts) :
    s.Keeps (s.modCounts e f) := .of_frame rfl rfl rfl rfl rfl rfl

theorem State.answered_keeps (s : State) (c : Instr) (r : Reply) : s.Keeps (s.answered c r) :=
  .of_frame rfl rfl rfl rfl rfl rfl

/-- A change of the settings that leaves them in their ranges. -/
theorem State.Keeps.of_ranges {s t : State} (hr : s.SettingsInRange → t.SettingsInRange)
    (hp : t.positions = s.positions) (ht : t.tear = s.tear) (hq : t.queue = s.queue) : s.Keeps t where
  outputs h p := by rw [State.pos_congr hp]; exact h p
  ranges := hr
  bounded h := ⟨fun p => by rw [State.pos_congr hp]; exact h.1 p, ht ▸ h.2⟩
  consecutive h := hq ▸ h

/-! ### The record queue -/

/-- A record at the next sequence keeps the sequences consecutive (R140). -/
theorem RecordQueue.Consecutive.append {q : RecordQueue} (h : q.Consecutive) (r : CallRecord)
    (hr : r.sequence = q.nextSequence) :
    RecordQueue.Consecutive { records := q.records ++ [r], nextSequence := q.nextSequence + 1 } := by
  intro i hi
  simp only [List.length_append, List.length_cons, List.length_nil] at hi ⊢
  by_cases hlt : i < q.records.length
  · rw [List.getElem_append_left hlt]
    have hn : q.records.length + (0 + 1) - i = q.records.length - i + 1 := by omega
    rw [hn, BitVec.ofNat_add, ← BitVec.add_assoc, h i hlt]
    rfl
  · have hl : i = q.records.length := by omega
    subst hl
    simp [hr]

/-- The oldest record leaves (R143). -/
theorem RecordQueue.Consecutive.tail {q : RecordQueue} (h : q.Consecutive) {r : CallRecord} {rest : List CallRecord}
    (hq : q.records = r :: rest) : RecordQueue.Consecutive { q with records := rest } := by
  intro i hi
  have hlt : i + 1 < q.records.length := by rw [hq]; simpa using hi
  have hseq := h (i + 1) hlt
  simpa [hq] using hseq

theorem State.writeRecord_keeps (s : State) (r : Word16 → CallRecord) (hr : ∀ n, (r n).sequence = n) :
    s.Keeps (s.writeRecord r) where
  outputs := id
  ranges := id
  bounded := id
  consecutive h := h.append _ (hr _)

theorem State.closeCall_keeps (s : State) (p : PosId) : s.Keeps (s.closeCall p) := by
  unfold State.closeCall
  split
  · exact .refl s
  · exact (s.writeRecord_keeps _ fun _ => rfl).trans (State.modPos_keeps ⟨id, id⟩)

theorem State.closeRecovery_keeps (s : State) (p : PosId) (why : EndCause) : s.Keeps (s.closeRecovery p why) := by
  unfold State.closeRecovery
  split
  · exact .refl s
  · exact (s.writeRecord_keeps _ fun _ => rfl).trans (State.modPos_keeps ⟨id, id⟩)

/-! ### The tear list -/

/-- A further change, of the tear list, that leaves it sound. -/
theorem State.Keeps.tear {s t u : State} (h : s.Keeps t) (hs : s.Bounded → t.Bounded → u.tear.Sound)
    (hp : u.positions = t.positions) (hd : u.depths = t.depths) (hse : u.settings = t.settings)
    (hi : u.acct.interval = t.acct.interval) (hq : u.queue = t.queue) : s.Keeps u where
  outputs h0 p := by rw [State.pos_congr hp]; exact h.outputs h0 p
  ranges h0 := by unfold State.SettingsInRange; rw [hd, hse, hi]; exact h.ranges h0
  bounded h0 := ⟨fun p => by rw [State.pos_congr hp]; exact (h.bounded h0).1 p, hs h0 (h.bounded h0)⟩
  consecutive h0 := hq ▸ h.consecutive h0

/-- Fewer entries are sound where all were. -/
theorem TearList.Sound.sublist {l m : TearList} (h : l.Sound) (hs : m.entries.Sublist l.entries) : m.Sound := by
  obtain ⟨hlen, hnd, hall⟩ := h
  exact ⟨Nat.le_trans hs.length_le hlen, hnd.sublist (hs.map _), fun t ht => hall t (hs.subset ht)⟩

theorem TearList.Sound.remove {l : TearList} (h : l.Sound) (k : CardKey) : (l.remove k).Sound :=
  h.sublist List.filter_sublist

/-- The entry of a removed key is gone (R116). -/
theorem TearList.not_mem_remove (l : TearList) (k : CardKey) : k ∉ (l.remove k).entries.map (·.key) := by
  simp [TearList.remove]

/-- A sound entry of a key that is not listed may be appended where a place is free (R121). -/
theorem TearList.Sound.append {l m : TearList} (h : l.Sound) {t : TearEntry} (hm : m.entries = l.entries ++ [t])
    (hlen : l.entries.length < 32) (hk : t.key ∉ l.entries.map (·.key)) (ht : t.owed ≤ 8)
    (ho : 1 ≤ t.owed ∨ t.inDoubt ≠ none) : m.Sound := by
  obtain ⟨-, hnd, hall⟩ := h
  refine ⟨?_, ?_, fun u hu => ?_⟩
  · rw [hm, List.length_append]
    exact hlen
  · rw [hm, List.map_append, List.nodup_append]
    refine ⟨hnd, by simp, ?_⟩
    rintro a ha b hb rfl
    simp only [List.map_cons, List.map_nil, List.mem_singleton] at hb
    exact hk (hb ▸ ha)
  · rw [hm, List.mem_append, List.mem_singleton] at hu
    rcases hu with hu | rfl
    · exact hall u hu
    · exact ⟨ht, ho⟩

/-- No entry is found exactly where the key is not among those listed. -/
theorem State.tearEntry_eq_none_iff (s : State) (k : CardKey) :
    s.tearEntry k = none ↔ k ∉ s.tear.entries.map (·.key) := by
  simp [State.tearEntry]

/-- An entry found is in the list. -/
theorem State.tearEntry_mem {s : State} {k : CardKey} {t : TearEntry} (h : s.tearEntry k = some t) :
    t ∈ s.tear.entries := List.mem_of_find?_eq_some h

theorem State.removeEntry_keeps (s : State) (k : CardKey) : s.Keeps (s.modTear (·.remove k)) :=
  (State.Keeps.refl s).tear (fun _ h => h.2.remove k) rfl rfl rfl rfl rfl

theorem State.releaseWaiters_keeps (s : State) (k : CardKey) : s.Keeps (s.releaseWaiters k) := by
  refine State.mapPos_keeps fun _ x => ?_
  split
  · exact x.leaveWait_keeps
  · exact .refl x

theorem State.handNotices_keeps (s : State) (k : CardKey) : s.Keeps (s.handNotices k) := by
  refine State.mapPos_keeps fun _ x => ?_
  split
  · exact ⟨id, id⟩
  · exact .refl x

theorem State.evict_keeps (s : State) (t : TearEntry) : s.Keeps (s.evict t) := by
  have h1 : s.Keeps (s.modTear fun l =>
      { entries := l.entries.tail
        lastEviction :=
          some { key := t.key, owed := t.owed, inDoubt := if t.inDoubt.isSome then 1 else 0, stamp := s.link.stamp } }) :=
    (State.Keeps.refl s).tear (fun _ h => h.2.sublist (List.tail_sublist _)) rfl rfl rfl rfl rfl
  exact (((h1.trans (State.modTotals_keeps ..)).trans (State.modGlobal_keeps ..)).trans
    (State.modLink_keeps ..)).trans (State.releaseWaiters_keeps ..)

/-- After an eviction the list is the one before without its oldest entry (R123). -/
theorem State.evict_entries (s : State) (t : TearEntry) : (s.evict t).tear.entries = s.tear.entries.tail := by
  unfold State.evict State.releaseWaiters
  rw [State.mapPos_tear]
  rfl

/-- What a creation request may carry (R116, R117). -/
def TearEntry.Sound (t : TearEntry) : Prop := t.owed ≤ 8 ∧ (1 ≤ t.owed ∨ t.inDoubt ≠ none)

theorem State.Keeps.appendEntry {s u : State} (h : s.Keeps u) {t : TearEntry} (ht : s.Bounded → t.Sound)
    (hlen : s.Bounded → u.tear.entries.length < 32) (hk : t.key ∉ u.tear.entries.map (·.key)) :
    s.Keeps (u.appendEntry t) :=
  h.tear (fun h0 hu => hu.2.append rfl (hlen h0) hk (ht h0).1 (ht h0).2) rfl rfl rfl rfl rfl

/-- Two sound entries of one key make a sound entry (R122). -/
theorem TearEntry.merge_sound {old new : TearEntry} (h : new.Sound) :
    TearEntry.Sound { (old.merge new) with owed := min Config.tearOwedMax (old.merge new).owed } := by
  refine ⟨Nat.min_le_left _ _, ?_⟩
  obtain ⟨-, h | h⟩ := h
  · left
    simp only [TearEntry.merge, Config.tearOwedMax]
    omega
  · right
    simp only [TearEntry.merge]
    cases old.inDoubt <;> simp [h]

/-- An entry listed leaves a place when it goes. -/
theorem TearList.remove_length_lt {l : TearList} {t : TearEntry} (h : t ∈ l.entries) (hl : l.entries.length ≤ 32) :
    (l.remove t.key).entries.length < 32 := by
  refine Nat.lt_of_lt_of_le ?_ hl
  refine List.length_filter_lt_length_iff_exists.mpr ⟨t, h, ?_⟩
  simp

theorem State.Keeps.mergeEntry {s u : State} (h : s.Keeps u) {old new : TearEntry} (hn : s.Bounded → new.Sound)
    (ho : u.tearEntry new.key = some old) : s.Keeps (u.mergeEntry old new) := by
  have hk : old.key = new.key := State.tearEntry_key ho
  have hlen (hl : u.tear.entries.length ≤ 32) := hk ▸ TearList.remove_length_lt (State.tearEntry_mem ho) hl
  refine State.Keeps.tear h (fun h0 hu => ?_) rfl rfl rfl rfl rfl
  have hsound := TearEntry.merge_sound (old := old) (hn h0)
  exact (hu.2.remove new.key).append rfl (hlen hu.2.1) (TearList.not_mem_remove _ _) hsound.1 hsound.2

theorem State.Keeps.createEntry {s u : State} (h : s.Keeps u) {t : TearEntry} (ht : s.Bounded → t.Sound) :
    s.Keeps (u.createEntry t) := by
  refine State.Keeps.trans ?_ (State.handNotices_keeps ..)
  split
  · next old ho => exact h.mergeEntry ht ho
  · next hn =>
    have hk := (u.tearEntry_eq_none_iff t.key).mp hn
    split
    · next oldest rest he =>
      split
      · next hlt => exact h.appendEntry ht (fun _ => hlt) hk
      · refine (h.trans (u.evict_keeps oldest)).appendEntry ht (fun hl => ?_) ?_
        · have hl32 := (h.bounded hl).2.1
          rw [he] at hl32
          rw [State.evict_entries, he]
          exact Nat.lt_of_succ_le hl32
        · rw [State.evict_entries, List.map_tail]
          exact fun hm => hk (List.mem_of_mem_tail hm)
    · next he => exact h.appendEntry ht (fun _ => by simp [he]) hk

/-- The passing of a debt within the ceiling is a sound creation request (R117). -/
theorem State.passDebt_keeps (s : State) (p : PosId) : s.Keeps (s.passDebt p) := by
  unfold State.passDebt
  dsimp only
  split
  · exact State.modPos_keeps ⟨id, id⟩
  · split
    · exact State.modPos_keeps ⟨id, id⟩
    · next howes =>
      refine State.Keeps.createEntry (State.modPos_keeps ?_) fun h => ⟨?_, ?_⟩
      · exact Position.mapUnits_settle_keeps _ _ (fun h => h) (Nat.zero_le _)
      · have := h.1 p
        dsimp only
        omega
      · cases hd : (s.pos p).doubt with
        | none => left; simp [hd] at howes ⊢; omega
        | some b => right; simp

/-! ### Calls, recoveries and the finish of CLEARING -/

theorem State.endCall_keeps (s : State) (p : PosId) (why : EndCause) : s.Keeps (s.endCall p why) :=
  State.modPos_keeps ((Position.mapCall_keeps _ _).trans (Position.enterClearing_keeps ..))

theorem State.settleHandOver_keeps (s : State) (p : PosId) : s.Keeps (s.settleHandOver p) := by
  unfold State.settleHandOver
  dsimp only
  split
  · exact (s.closeRecovery_keeps ..).trans (State.modPos_keeps (Position.leaveWait_keeps _))
  · exact .refl s

theorem State.handOver_keeps (s : State) (p : PosId) : s.Keeps (s.handOver p) := by
  unfold State.handOver
  dsimp only
  split
  · exact .refl s
  · split
    · exact .refl s
    · exact (((((s.removeEntry_keeps _).trans (State.modTotals_keeps ..)).trans (State.modTotals_keeps ..)).trans
        (State.modPos_keeps (Position.takeOver_keeps ..))).trans (State.releaseWaiters_keeps ..)).trans
        (State.settleHandOver_keeps ..)

theorem State.admitRecovery_keeps (s : State) (p : PosId) : s.Keeps (s.admitRecovery p) :=
  (State.modPos_keeps ⟨id, id⟩).trans (State.handOver_keeps ..)

theorem State.enterRecovering_keeps (s : State) (p : PosId) : s.Keeps (s.enterRecovering p) := by
  have h : s.Keeps (s.modPos p (·.enter .recovering)) := State.modPos_keeps (Position.enter_keeps ..)
  unfold State.enterRecovering
  dsimp only
  split
  · exact h.trans (State.admitRecovery_keeps ..)
  · exact h

theorem State.arriveReady_keeps (s : State) (p : PosId) : s.Keeps (s.arriveReady p) := by
  unfold State.arriveReady
  dsimp only
  split
  · exact State.modPos_keeps (Position.arriveBlocked_keeps _)
  · split
    · exact s.enterRecovering_keeps p
    · exact State.modPos_keeps (Position.enter_keeps ..)

theorem State.finishRecovery_keeps (s : State) (p : PosId) : s.Keeps (s.finishRecovery p) := by
  refine (s.closeRecovery_keeps p (s.pos p).recoveryCause).trans ?_
  unfold State.finishRecovery
  dsimp only
  split
  · exact State.modPos_keeps (Position.arriveRefused_keeps ..)
  · exact State.arriveReady_keeps ..

theorem State.loseRecovery_keeps (s : State) (p : PosId) : s.Keeps (s.loseRecovery p) :=
  ((s.passDebt_keeps p).trans (State.closeRecovery_keeps ..)).trans (State.modPos_keeps (Position.arriveVacant_keeps _))

theorem State.finishClearing_keeps (s : State) (p : PosId) : s.Keeps (s.finishClearing p) := by
  refine (s.closeCall_keeps p).trans ?_
  unfold State.finishClearing
  dsimp only
  split
  · exact State.modPos_keeps (Position.arriveBlocked_keeps _)
  split
  · exact State.modPos_keeps (Position.arriveVacant_keeps _)
  split
  · exact State.modPos_keeps (Position.arriveRefused_keeps ..)
  split
  · exact State.enterRecovering_keeps ..
  split
  · exact State.modPos_keeps (Position.startReading_keeps _)
  split
  · exact State.modPos_keeps (Position.arriveVacant_keeps _)
  split
  · exact State.modPos_keeps (Position.arriveRefused_keeps ..)
  · exact State.modPos_keeps (Position.arriveReadyUnlisted_keeps _)

theorem State.settle_keeps (s : State) (p : PosId) : s.Keeps (s.settle p) := by
  unfold State.settle
  dsimp only
  split
  · exact s.finishClearing_keeps p
  split
  · exact s.finishRecovery_keeps p
  · exact .refl s

theorem State.conclude_keeps (s : State) (p : PosId) : s.Keeps (s.conclude p) :=
  (s.settle_keeps p).trans (s.conclude_upToGrants p).keeps

/-! ### Allocation -/

theorem State.relieveLane_keeps (s : State) (e : EngineId) : s.Keeps (s.relieveLane e) := by
  unfold State.relieveLane
  split
  · refine State.mapPos_keeps fun p x => ?_
    split
    · exact ⟨id, id⟩
    · exact .refl x
  · exact .refl s

theorem State.setAllocation_keeps (s : State) (p : PosId) (a : Allocation) : s.Keeps (s.setAllocation p a) := by
  have h : s.Keeps (s.modPos p fun x => { x with allocation := a, changed := true }) := State.modPos_keeps ⟨id, id⟩
  unfold State.setAllocation
  split
  · exact .refl s
  · dsimp only
    split
    · exact h.trans (State.modPos_keeps ⟨id, id⟩)
    · exact h

theorem State.applyPendingAllocation_keeps (s : State) (p : PosId) : s.Keeps (s.applyPendingAllocation p) := by
  unfold State.applyPendingAllocation
  split
  · exact .refl s
  · exact .trans (State.modPos_keeps ⟨id, id⟩) (State.setAllocation_keeps ..)

theorem State.takeHome_keeps (s : State) (e : EngineId) : s.Keeps (s.takeHome e) := by
  refine State.mapPos_keeps fun p x => ?_
  split
  · split <;> exact ⟨id, id⟩
  · exact .refl x

/-! ### Charging and the expiries -/

/-- A charge the ceiling admits (R65, R66). -/
theorem State.charge_keeps {s : State} {p : PosId} {n : Nat} (h : n ≤ 7 - (s.pos p).debt) : s.Keeps (s.charge p n) := by
  rw [State.charge_def]
  refine .trans (State.modPos_keeps ⟨fun h => h, fun hd => ?_⟩) (State.modTotals_keeps ..)
  change (s.pos p).debt + n ≤ 7
  omega

theorem State.answerCall_keeps (s : State) (p : PosId) : s.Keeps (s.answerCall p) := by
  have h1 : s.Keeps (s.modPos p (·.mapCall fun c => { c with answer := some s.link.stamp })) :=
    State.modPos_keeps ⟨id, id⟩
  unfold State.answerCall
  dsimp only
  split
  · exact .refl s
  · split
    · refine (((h1.trans (State.modPos_keeps ⟨id, id⟩)).trans (State.charge_keeps ?_)).trans
        (State.modPos_keeps ?_)).trans (State.modTotals_keeps ..)
      · exact Nat.le_trans (Nat.min_le_right _ _) (Nat.min_le_right _ _)
      · exact (Position.startMetering_keeps ..).trans (Position.lastUnitTest_keeps _)
    · exact h1.trans (State.endCall_keeps ..)

theorem State.debtLimitCut_keeps {s : State} {p : PosId} {n : Nat} (step : Nat) (h : n ≤ 7 - (s.pos p).debt) :
    s.Keeps (s.debtLimitCut p step n) :=
  ((State.charge_keeps h).trans (State.modGlobal_keeps ..)).trans (State.endCall_keeps ..)

theorem State.recopy_keeps (s : State) (p : PosId) : s.Keeps (s.recopy p) := State.modPos_keeps ⟨id, id⟩

theorem State.meteringExpiry_keeps (s : State) (p : PosId) : s.Keeps (s.meteringExpiry p) := by
  unfold State.meteringExpiry
  split
  · exact .refl s
  split
  · exact .refl s
  · next c _ t _ =>
    have hn : min t.step (Config.debtCeiling - (s.pos p).debt) ≤ 7 - (s.pos p).debt := Nat.min_le_right _ _
    dsimp only
    split
    · exact State.debtLimitCut_keeps _ hn
    · refine .trans ?_ (State.modPos_keeps ((Position.reload_keeps _).trans (Position.lastUnitTest_keeps _)))
      split
      · exact (State.charge_keeps hn).trans (State.recopy_keeps ..)
      · exact State.charge_keeps hn

theorem State.lastUnitExpiry_keeps (s : State) (p : PosId) : s.Keeps (s.lastUnitExpiry p) := by
  unfold State.lastUnitExpiry
  split
  · exact .refl s
  · exact (State.charge_keeps (Nat.le_trans (Nat.min_le_right _ _) (Nat.min_le_right _ _))).trans (State.endCall_keeps ..)

/-! ### The accepted inputs -/

theorem State.passOrLose_keeps (s : State) (p : PosId) : s.Keeps (s.passOrLose p) := by
  unfold State.passOrLose
  split
  · exact State.modPos_keeps ⟨id, id⟩
  · exact s.passDebt_keeps p

theorem State.cardLeaves_keeps (s : State) (p : PosId) : s.Keeps (s.cardLeaves p) := by
  have hleft : s.Keeps (s.modPos p fun x => { x with cardLeft := true }) := State.modPos_keeps ⟨id, id⟩
  unfold State.cardLeaves
  split
  case h_1 | h_2 => exact .refl s
  case h_3 => exact State.modPos_keeps (.trans (y := (s.pos p).discardIdentify) ⟨id, id⟩ (Position.arriveVacant_keeps _))
  case h_4 | h_5 => exact State.modPos_keeps (Position.arriveVacant_keeps _)
  case h_6 | h_7 | h_8 =>
    exact (((s.modGlobal_keeps _).trans (State.modPos_keeps ⟨id, id⟩)).trans (State.endCall_keeps ..)).trans
      (State.passOrLose_keeps ..)
  case h_9 => exact State.modPos_keeps ⟨id, id⟩
  case h_10 => exact hleft.trans (State.passOrLose_keeps ..)
  case h_11 =>
    refine hleft.trans ?_
    split
    · exact State.modPos_keeps (Position.arriveVacant_keeps _)
    split
    · exact State.modPos_keeps ⟨id, id⟩
    · exact State.loseRecovery_keeps ..

theorem State.cardAccepted_keeps (s : State) (p : PosId) (previous : Option CardLevel) (v : CardLevel) :
    s.Keeps (s.cardAccepted p previous v) := by
  unfold State.cardAccepted
  split
  · unfold State.insertion
    split
    · exact State.modPos_keeps (Position.startReading_keeps _)
    · exact .refl s
  · split
    · exact s.cardLeaves_keeps p
    · exact .refl s

theorem State.hookAccepted_keeps (s : State) (p : PosId) (v : HookLevel) : s.Keeps (s.hookAccepted p v) := by
  have h : s.Keeps (s.modPos p fun x => { x with changed := true }) := State.modPos_keeps ⟨id, id⟩
  unfold State.hookAccepted
  dsimp only
  split
  · exact h.trans (State.endCall_keeps ..)
  · exact h

/-- Forced clear and tone may go off at any time. -/
theorem Position.Keeps.outputs_off {x y : Position} (h1 : y.lineEnable = x.lineEnable) (h2 : y.state = x.state)
    (h3 : y.forcedClear = true → x.forcedClear = true) (h4 : y.tone = true → x.tone = true) (h5 : y.debt = x.debt) :
    x.Keeps y := by
  refine ⟨fun ⟨hl, hf, ht⟩ => ⟨?_, ?_, ?_⟩, fun h => h5 ▸ h⟩
  · rw [h1, h2, hl]
  · rw [h2]; exact hf ∘ h3
  · rw [h2]; exact ht ∘ h4

theorem State.lineAccepted_keeps (s : State) (p : PosId) (v : LineCode) : s.Keeps (s.lineAccepted p v) := by
  unfold State.lineAccepted
  split
  · exact .refl s
  · split
    · exact State.modPos_keeps (.outputs_off rfl rfl (fun h => absurd (show false = true from h) nofun) id rfl)
    · exact .refl s
  · split
    · exact s.answerCall_keeps p
    split
    · exact State.modPos_keeps ⟨id, id⟩
    · exact .refl s
  · split
    · exact s.endCall_keeps p _
    · exact .refl s

/-- An accepted sample runs its consequence and the end of the event. -/
theorem State.Keeps.accepted {s t u : State} (h1 : s.Keeps t) (h2 : t.Keeps u) (b : Bool) (p : PosId) :
    s.Keeps (if b then u.conclude p else t) := by
  split
  · exact (h1.trans h2).trans (State.conclude_keeps ..)
  · exact h1

theorem State.sample_keeps (s : State) (p : PosId) (v : Sample) : s.Keeps (s.sample p v) := by
  cases v with
  | hook v =>
    exact .accepted (t := s.modPos p fun x => { x with hook := (x.hook.sample s.depths.hook v).1 })
      (State.modPos_keeps ⟨id, id⟩) (State.hookAccepted_keeps ..) _ p
  | card v =>
    exact .accepted (t := s.modPos p fun x => { x with card := (x.card.sample s.depths.card v).1 })
      (State.modPos_keeps ⟨id, id⟩) (State.cardAccepted_keeps ..) _ p
  | line v =>
    exact .accepted (t := s.modPos p fun x => { x with line := (x.line.sample s.depths.line v).1 })
      (State.modPos_keeps ⟨id, id⟩) (State.lineAccepted_keeps ..) _ p

/-! ### The card buses and the completions -/

theorem State.busStep_keeps (s : State) (e : EngineId) (next : EngineOp → Option BusStep) :
    s.Keeps (s.busStep e next) := by
  unfold State.busStep
  split
  · exact .refl s
  split
  · exact .refl s
  split
  · exact .refl s
  · exact s.modEng_keeps e _

theorem Position.debtLost_keeps (x : Position) : x.Keeps x.debtLost :=
  Position.mapUnits_settle_keeps _ _ (fun h => h) (Nat.zero_le _)

theorem Position.unitBurned_keeps (x : Position) : x.Keeps x.unitBurned :=
  Position.mapUnits_settle_keeps _ _ (fun h => h) (Nat.sub_le _ _)

theorem State.debtLost_keeps (s : State) (p : PosId) : s.Keeps (s.debtLost p) := by
  unfold State.debtLost
  exact (State.modPos_keeps (Position.debtLost_keeps _)).trans (State.modTotals_keeps ..)

theorem State.cardFault_keeps (s : State) (p : PosId) : s.Keeps (s.cardFault p) := by
  rw [State.cardFault_def]
  refine (s.debtLost_keeps p).trans ?_
  split
  case h_1 | h_2 => exact State.endCall_keeps ..
  case h_3 =>
    refine .trans (State.closeRecovery_keeps ..) (State.modPos_keeps ?_)
    split
    · exact Position.arriveVacant_keeps _
    · exact Position.arriveRefused_keeps ..
  all_goals exact .refl _

theorem State.strike_keeps (s : State) (p : PosId) : s.Keeps (s.strike p) := by
  unfold State.strike
  split
  · exact s.cardFault_keeps p
  · exact State.modPos_keeps ⟨id, id⟩

theorem State.unitBurned_keeps (s : State) (p : PosId) : s.Keeps (s.unitBurned p) := by
  rw [State.unitBurned_def]
  exact (State.modPos_keeps (Position.unitBurned_keeps _)).trans (State.modTotals_keeps ..)

theorem State.unitDone_keeps (s : State) (p : PosId) : s.Keeps (s.unitDone p) :=
  (s.unitBurned_keeps p).trans (State.modPos_keeps ⟨id, id⟩)

theorem State.unitsLost_keeps (s : State) (p : PosId) (counter : Nat) : s.Keeps (s.unitsLost p counter) := by
  have h1 : s.Keeps ((s.unitBurned p).modPos p fun x => { x with remaining := counter }) :=
    (s.unitBurned_keeps p).trans (State.modPos_keeps ⟨id, id⟩)
  unfold State.unitsLost
  dsimp only
  split
  · exact h1.trans (State.cardFault_keeps ..)
  · exact h1.trans (State.modPos_keeps (Position.lastUnitTest_keeps _))

theorem State.markAnomaly_keeps (s : State) (p : PosId) : s.Keeps (s.modPos p (·.markAnomaly)) :=
  State.modPos_keeps (Position.mapUnits_keeps ..)

theorem State.burnOutcome_keeps (s : State) (p : PosId) (before : Nat) (o : OpOutcome) :
    s.Keeps (s.burnOutcome p before o) := by
  have hdoubt : s.Keeps (s.modPos p (·.setDoubt)) := State.modPos_keeps ⟨id, id⟩
  cases o with
  | done n => exact s.unitDone_keeps p
  | notTaken n => exact s.strike_keeps p
  | timeout => exact hdoubt.trans (State.strike_keeps ..)
  | busFault | cardGone | abandoned => exact hdoubt
  | anomaly counter =>
    refine (s.markAnomaly_keeps p).trans ?_
    unfold State.burnOutcome
    dsimp only
    split
    · exact State.unitsLost_keeps ..
    · exact State.cardFault_keeps ..
  | read h | checkFail | noCard => exact .refl s

theorem State.otherCard_keeps (s : State) (p : PosId) : s.Keeps (s.otherCard p) := by
  unfold State.otherCard
  split
  · exact State.modPos_keeps ⟨id, id⟩
  · exact s.cardLeaves_keeps p

theorem State.resolveVerify_keeps (s : State) (p : PosId) (before : Nat) (h : Header) :
    s.Keeps (s.resolveVerify p before h) := by
  have h1 : s.Keeps (s.modPos p fun x => { x with doubt := none }) := State.modPos_keeps ⟨id, id⟩
  unfold State.resolveVerify
  dsimp only
  split
  · exact s.otherCard_keeps p
  split
  · exact h1.trans (State.unitDone_keeps ..)
  split
  · exact h1
  split
  · exact (h1.trans (State.markAnomaly_keeps ..)).trans (State.unitsLost_keeps ..)
  · exact (h1.trans (State.markAnomaly_keeps ..)).trans (State.cardFault_keeps ..)

theorem State.verifyOutcome_keeps (s : State) (p : PosId) (o : OpOutcome) : s.Keeps (s.verifyOutcome p o) := by
  have hfail : s.Keeps (if (s.pos p).present then s.strike p else s) := by
    split
    · exact s.strike_keeps p
    · exact .refl s
  cases o with
  | read h =>
    unfold State.verifyOutcome
    dsimp only
    split
    · exact .refl s
    · exact s.resolveVerify_keeps ..
  | checkFail | noCard => exact hfail
  | busFault | abandoned | done n | notTaken n | anomaly n | cardGone | timeout => exact .refl s

theorem State.identifyRead_keeps (s : State) (p : PosId) (h : Header) : s.Keeps (s.identifyRead p h) := by
  have hhold (r : Nat) (x : Position) : x.Keeps (x.hold h r) := ⟨id, id⟩
  refine .trans (State.modPos_keeps (p := p) (f := fun x => { x with retry := 0 }) ⟨id, id⟩) (u := s.identifyRead p h) ?_
  unfold State.identifyRead
  dsimp only
  split
  · exact State.modPos_keeps (Position.arriveRefused_keeps ..)
  split
  · exact State.modPos_keeps (Position.arriveRefused_keeps ..)
  split
  · exact (State.modPos_keeps (hhold ..)).trans (State.enterRecovering_keeps ..)
  split
  · exact State.modPos_keeps (Position.arriveRefused_keeps ..)
  split
  · exact State.modPos_keeps ((hhold ..).trans (Position.arriveRefused_keeps ..))
  · exact (State.modPos_keeps (hhold ..)).trans (State.arriveReady_keeps ..)

theorem State.identifyOutcome_keeps (s : State) (p : PosId) (o : OpOutcome) : s.Keeps (s.identifyOutcome p o) := by
  have hfail : s.Keeps (if (s.pos p).present then s.modPos p (·.misread) else s) := by
    split
    · exact State.modPos_keeps (Position.misread_keeps _)
    · exact .refl s
  unfold State.identifyOutcome
  split
  · cases o with
    | read h => exact s.identifyRead_keeps p h
    | checkFail | noCard => exact hfail
    | busFault | abandoned | done n | notTaken n | anomaly n | cardGone | timeout => exact .refl s
  · exact .refl s

theorem State.takeOutcome_keeps (s : State) (p : PosId) (op : EngineOp) (o : OpOutcome) :
    s.Keeps (s.takeOutcome p op o) := by
  unfold State.takeOutcome
  split
  · exact s.identifyOutcome_keeps p o
  · exact s.verifyOutcome_keeps p o
  · exact s.burnOutcome_keeps p op.before o

theorem State.passLost_keeps (s : State) (p : PosId) : s.Keeps (s.passLost p) := by
  unfold State.passLost
  split
  · split
    · exact s.loseRecovery_keeps p
    · exact s.passDebt_keeps p
  · exact .refl s

theorem State.takeCompletion_keeps (s : State) (p : PosId) (op : EngineOp) (o : OpOutcome) :
    s.Keeps (s.takeCompletion p op o) := by
  have h1 : s.Keeps (s.modPos p fun x => { x with inFlight := none }) := State.modPos_keeps ⟨id, id⟩
  refine .trans (.trans (.trans (t := if (s.pos p).discarding then _ else _) ?_ (State.passLost_keeps _ p))
    (State.settle_keeps _ p)) (State.applyPendingAllocation_keeps _ p)
  split
  · exact h1
  · exact h1.trans (State.takeOutcome_keeps ..)

theorem State.complete_keeps (s : State) (e : EngineId) (op : EngineOp) (o : OpOutcome) : s.Keeps (s.complete e op o) := by
  have h2 : s.Keeps (((s.modEng e (·.complete o)).modCounts e (·.completed o)).takeCompletion op.position op o) :=
    ((s.modEng_keeps ..).trans (State.modCounts_keeps ..)).trans (State.takeCompletion_keeps ..)
  refine .trans (.trans (.trans (t := if (s.eng e).laneAfter o = .faulted then _ else _) ?_
    (State.derive_upToGrants _ op.position).keeps) (State.burstOn_upToGrants ..).keeps) (State.serve_upToGrants _).keeps
  split
  · exact h2.trans (State.relieveLane_keeps ..)
  · exact h2

theorem State.completeKind_keeps (s : State) (e : EngineId) (kind : CardOp) : s.Keeps (s.completeKind e kind) := by
  unfold State.completeKind
  split
  · exact .refl s
  split
  · exact s.complete_keeps ..
  · exact .refl s

/-! ### The link and the owners of the requests -/

theorem State.discardFrame_keeps (s : State) : s.Keeps s.discardFrame := (s.modGlobal_keeps _).trans (State.modLink_keeps ..)

/-- A request keeps what its owner keeps. -/
theorem State.request_keeps {s : State} (c : Instr) {owner : State → State × Reply} (h : s.Keeps (owner s).1) :
    s.Keeps (s.request c owner) := by
  unfold State.request
  split
  · exact s.discardFrame_keeps
  · exact h.trans (State.answered_keeps ..)

theorem onPosition_keeps {s : State} (b : Byte) {rule : PosId → State → State × Reply}
    (h : ∀ p, s.Keeps (rule p s).1) : s.Keeps (onPosition b rule s).1 := by
  unfold onPosition
  split
  · exact .refl s
  · exact h _

theorem onEngine_keeps {s : State} (b : Byte) {rule : EngineId → State → State × Reply}
    (h : ∀ e, s.Keeps (rule e s).1) : s.Keeps (onEngine b rule s).1 := by
  unfold onEngine
  split
  · exact .refl s
  · exact h _

theorem State.frameByte_keeps (s : State) (bytes : List Byte) (b : Byte) : s.Keeps (s.frameByte bytes b) := by
  unfold State.frameByte
  split
  · split
    · exact s.discardFrame_keeps
    · exact s.modLink_keeps _
  · dsimp only
    split
    · exact s.modLink_keeps _
    · unfold State.frameEnds
      split
      · exact s.discardFrame_keeps
      · exact s.modLink_keeps _

theorem State.responseLeaves_keeps (s : State) : s.Keeps s.responseLeaves := by
  have h2 (r : Fin 5) : s.Keeps ((s.modLink fun l => { l with answerPending := false, response := none }).modLink
      fun l => { l with rate := r, newRate := none }) := (s.modLink_keeps _).trans (State.modLink_keeps ..)
  unfold State.responseLeaves
  dsimp only
  split
  · exact s.modLink_keeps _
  split
  · exact h2 _
  · exact (h2 _).trans (State.discardFrame_keeps _)

/-- A setting keeps the laws where its range is that of the law. -/
theorem inRange_keeps {lo hi v : Nat} {s t : State} (h : lo ≤ v → v ≤ hi → s.Keeps t) :
    s.Keeps (inRange lo hi v s t).1 := by
  unfold inRange
  split
  · next hr => exact h hr.1 hr.2
  · exact .refl s

theorem setInterval_keeps (v : Nat) (s : State) : s.Keeps (setInterval v s).1 := by
  unfold setInterval
  split
  · exact .of_ranges (fun ⟨h1, h2, h3, h4, h5, h6, _⟩ => ⟨h1, h2, h3, h4, h5, h6, .inl rfl⟩) rfl rfl rfl
  · exact inRange_keeps fun hl hh =>
      .of_ranges (fun ⟨h1, h2, h3, h4, h5, h6, _⟩ => ⟨h1, h2, h3, h4, h5, h6, .inr ⟨hl, hh⟩⟩) rfl rfl rfl

theorem setRule_keeps (code : Byte) (value : Word16) (s : State) : s.Keeps (setRule code value s).1 := by
  unfold setRule
  dsimp only
  split
  · exact inRange_keeps fun hl hh =>
      .of_ranges (fun ⟨h1, h2, h3, _, h5, h6, h7⟩ => ⟨h1, h2, h3, ⟨hl, hh⟩, h5, h6, h7⟩) rfl rfl rfl
  · exact inRange_keeps fun hl hh =>
      .of_ranges (fun ⟨h1, h2, h3, h4, _, h6, h7⟩ => ⟨h1, h2, h3, h4, ⟨hl, hh⟩, h6, h7⟩) rfl rfl rfl
  · exact inRange_keeps fun hl hh =>
      .of_ranges (fun ⟨h1, h2, h3, h4, h5, _, h7⟩ => ⟨h1, h2, h3, h4, h5, ⟨hl, hh⟩, h7⟩) rfl rfl rfl
  · exact inRange_keeps fun hl hh => .of_ranges (fun ⟨_, h⟩ => ⟨⟨hl, hh⟩, h⟩) rfl rfl rfl
  · exact inRange_keeps fun hl hh => .of_ranges (fun ⟨h1, _, h⟩ => ⟨h1, ⟨hl, hh⟩, h⟩) rfl rfl rfl
  · exact inRange_keeps fun hl hh => .of_ranges (fun ⟨h1, h2, _, h⟩ => ⟨h1, h2, ⟨hl, hh⟩, h⟩) rfl rfl rfl
  · exact setInterval_keeps _ s
  · exact inRange_keeps fun _ _ => s.modLink_keeps _
  · exact .refl s

theorem linkRateRule_keeps (code : Byte) (s : State) : s.Keeps (linkRateRule code s).1 := by
  unfold linkRateRule
  split
  · exact .refl s
  split
  · exact .refl s
  · dsimp only [accept]
    exact s.modLink_keeps _

theorem tariffStageRule_keeps (cls band defined : Byte) (period : Word16) (step initial follow : Byte) (s : State) :
    s.Keeps (tariffStageRule cls band defined period step initial follow s).1 := by
  unfold tariffStageRule
  split
  · dsimp only [accept]
    exact s.modTariff_keeps _
  · exact .refl s

theorem tariffCopyRule_keeps (s : State) : s.Keeps (tariffCopyRule s).1 := by
  unfold tariffCopyRule accept
  dsimp only
  exact s.modTariff_keeps _

theorem clockRule_keeps (stamp : Word32) (s : State) : s.Keeps (clockRule stamp s).1 := by
  unfold clockRule accept
  dsimp only
  exact s.modLink_keeps _

theorem clearAlertsRule_keeps (alerts : Word16) (s : State) : s.Keeps (clearAlertsRule alerts s).1 := by
  unfold clearAlertsRule accept
  dsimp only
  exact s.modLink_keeps _

theorem tariffCommitRule_keeps (n : Byte) (s : State) : s.Keeps (tariffCommitRule n s).1 := by
  unfold tariffCommitRule
  split
  · exact .refl s
  · dsimp only [accept]
    exact s.modTariff_keeps _

theorem bandRule_keeps (b : Byte) (s : State) : s.Keeps (bandRule b s).1 := by
  unfold bandRule
  split
  · exact .refl s
  split
  · exact .refl s
  · dsimp only [accept]
    refine (s.modTariff_keeps _).trans (State.mapPos_keeps fun _ x => ?_)
    split
    · exact x.mapCall_keeps _
    · exact .refl x

theorem freezeRule_keeps (mark : Byte) (p : PosId) (s : State) : s.Keeps (freezeRule mark p s).1 := by
  unfold freezeRule
  split
  · exact .refl s
  · dsimp only [accept]
    exact State.modPos_keeps (Position.refrozen_keeps ⟨id, id⟩)

theorem profileRule_keeps (prof : Byte) (p : PosId) (s : State) : s.Keeps (profileRule prof p s).1 := by
  unfold profileRule
  split
  · exact .refl s
  split
  · dsimp only [accept]
    exact State.modPos_keeps (Position.refrozen_keeps ⟨id, id⟩)
  · exact .refl s

theorem laneTestRule_keeps (e : EngineId) (s : State) : s.Keeps (laneTestRule e s).1 := by
  unfold laneTestRule
  split
  · exact s.modEng_keeps e _
  · exact .refl s

theorem laneEnableRule_keeps (e : EngineId) (s : State) : s.Keeps (laneEnableRule e s).1 := by
  unfold laneEnableRule
  split
  · exact s.modEng_keeps e _
  · exact .refl s

theorem laneModeRule_keeps (e mode len auto : Byte) (s : State) : s.Keeps (laneModeRule e mode len auto s).1 := by
  unfold laneModeRule
  split
  · split
    · unfold setLaneMode
      dsimp only [accept]
      split
      · exact ((s.modEng_keeps ..).trans (State.relieveLane_keeps ..)).trans (State.serve_upToGrants _).keeps
      · exact s.modEng_keeps ..
    · exact .refl s
  · exact .refl s

theorem changesRule_keeps (s : State) : s.Keeps (changesRule s).1 := by
  unfold changesRule State.clearChanged
  dsimp only
  refine State.mapPos_keeps fun p x => ?_
  split
  · exact ⟨id, id⟩
  · exact .refl x

theorem Position.derive_keeps (x : Position) : x.Keeps x.derive := by
  unfold Position.derive
  split
  · exact .refl x
  · exact ⟨id, id⟩

/-- A derivation follows a change that keeps the laws. -/
theorem Position.Keeps.derive {x y : Position} (h : x.Keeps y) : x.Keeps y.derive := h.trans y.derive_keeps

theorem startCharged_keeps (p : PosId) (c : Fin 16) (s : State) : s.Keeps (startCharged p c s) := by
  unfold startCharged
  exact State.modPos_keeps (.derive (.of_outputs (.of_off rfl rfl rfl) rfl))

theorem startFree_keeps (p : PosId) (c : Fin 16) (s : State) : s.Keeps (startFree p c s) := by
  unfold startFree
  refine .trans (State.modPos_keeps ?_) (State.modTotals_keeps ..)
  exact .derive (.of_outputs (.of_off rfl rfl rfl) rfl)

theorem routeRule_keeps (cls : Byte) (p : PosId) (s : State) : s.Keeps (routeRule cls p s).1 := by
  unfold routeRule
  split
  · exact .refl s
  split
  · exact .refl s
  · dsimp only [accept]
    split
    · exact startFree_keeps ..
    · exact startCharged_keeps ..

theorem releaseRule_keeps (p : PosId) (s : State) : s.Keeps (releaseRule p s).1 := by
  unfold releaseRule
  split
  · dsimp only [accept]
    exact (s.endCall_keeps ..).trans (State.conclude_keeps ..)
  split <;> exact .refl s

theorem State.blockPosition_keeps (s : State) (p : PosId) : s.Keeps (s.blockPosition p) := by
  have hset : s.Keeps (s.modPos p (·.setBlockPending)) := State.modPos_keeps ⟨id, id⟩
  unfold State.blockPosition
  split
  case h_1 | h_2 | h_3 => exact (State.modPos_keeps (Position.arriveBlocked_keeps _)).trans (State.conclude_keeps ..)
  case h_4 | h_5 => exact hset
  case h_6 | h_7 | h_8 | h_9 => exact (hset.trans (State.endCall_keeps ..)).trans (State.conclude_keeps ..)
  case h_10 => exact hset.trans (State.conclude_keeps ..)
  case h_11 => exact .refl s

theorem unblockRule_keeps (p : PosId) (s : State) : s.Keeps (unblockRule p s).1 := by
  unfold unblockRule
  split
  · dsimp only [accept]
    exact (State.modPos_keeps (Position.unblock_keeps _)).trans (State.conclude_keeps ..)
  · exact .refl s

theorem allocateRule_keeps (alloc : Byte) (p : PosId) (s : State) : s.Keeps (allocateRule alloc p s).1 := by
  have h (a : Allocation) : s.Keeps (s.allocate p a) := by
    have hr : s.Keeps (s.modPos p fun x => { x with relieved := false }) := State.modPos_keeps ⟨id, id⟩
    unfold State.allocate
    dsimp only
    split
    · exact hr.trans (State.modPos_keeps ⟨id, id⟩)
    · exact (hr.trans (State.setAllocation_keeps ..)).trans (State.serve_upToGrants _).keeps
  unfold allocateRule
  split
  · exact .refl s
  · exact h _

theorem recordPeekRule_keeps (s : State) : s.Keeps (recordPeekRule s).1 := by
  unfold recordPeekRule
  split <;> exact .refl s

theorem State.offerPlace_keeps (s : State) : s.Keeps s.offerPlace := by
  unfold State.offerPlace
  split
  · exact .refl s
  · exact (s.admitRecovery_keeps _).trans (State.conclude_keeps ..)

theorem recordReleaseRule_keeps (seq : Word16) (s : State) : s.Keeps (recordReleaseRule seq s).1 := by
  unfold recordReleaseRule
  split
  · exact .refl s
  · next r rest hr =>
    split
    · have h : s.Keeps (s.modQueue fun q => { q with records := rest }) := ⟨id, id, id, fun h => h.tail hr⟩
      dsimp only [accept]
      exact h.trans (State.offerPlace_keeps _)
    · exact .refl s

theorem tearReadRule_keeps (i : Byte) (s : State) : s.Keeps (tearReadRule i s).1 := by
  unfold tearReadRule
  split
  · exact .refl s
  split <;> exact .refl s

theorem tearDeleteRule_keeps (series : Word16) (serial : Word32) (s : State) :
    s.Keeps (tearDeleteRule series serial s).1 := by
  unfold tearDeleteRule
  dsimp only
  split
  · exact .refl s
  · dsimp only [accept]
    exact ((s.removeEntry_keeps _).trans (State.modTotals_keeps ..)).trans (State.releaseWaiters_keeps ..)

theorem tariffReadRule_keeps (sel cls band : Byte) (s : State) : s.Keeps (tariffReadRule sel cls band s).1 := by
  unfold tariffReadRule
  split <;> exact .refl s

theorem unknownRequestRule_keeps (type : Byte) (s : State) : s.Keeps (unknownRequestRule type s).1 := by
  unfold unknownRequestRule
  split <;> exact .refl s

theorem State.takeNotice_keeps (s : State) (p : PosId) (k : CardKey) : s.Keeps (s.takeNotice p k) := by
  have h1 : s.Keeps (s.modPos p fun x => { x with notice := none }) := State.modPos_keeps ⟨id, id⟩
  unfold State.takeNotice
  dsimp only
  split
  · exact (h1.trans (State.enterRecovering_keeps ..)).trans (State.conclude_keeps ..)
  · exact h1

/-! ### RESTART -/

/-- What holds of each element's change holds of the whole walk. -/
theorem State.Keeps.foldl {α : Type} {f : State → α → State} (h : ∀ s a, State.Keeps s (f s a)) (l : List α) (s : State) :
    s.Keeps (l.foldl f s) := by
  induction l generalizing s with
  | nil => exact .refl s
  | cons a l ih => exact (h s a).trans (ih _)

theorem State.restartEngine_keeps (s : State) (e : EngineId) : s.Keeps (s.restartEngine e) := by
  unfold State.restartEngine
  split
  · exact s.modEng_keeps e _
  · exact (((s.modEng_keeps e _).trans (State.modCounts_keeps ..)).trans
      (State.modPos_keeps (Position.abandon_keeps ..))).trans (State.applyPendingAllocation_keeps ..)

theorem State.restartCall_keeps (s : State) (p : PosId) : s.Keeps (s.restartCall p) := by
  unfold State.restartCall
  split
  · exact ((State.modPos_keeps (Position.restartCause_keeps ..)).trans (State.passDebt_keeps ..)).trans
      (State.closeCall_keeps ..)
  · exact .refl s

theorem State.restartRecovery_keeps (s : State) (p : PosId) : s.Keeps (s.restartRecovery p) := by
  unfold State.restartRecovery
  split
  · exact (s.passDebt_keeps p).trans (State.closeRecovery_keeps ..)
  · exact .refl s

theorem State.restart_keeps (s : State) : s.Keeps s.restart := by
  unfold State.restart
  exact ((((State.Keeps.foldl State.restartEngine_keeps allEngines s).trans
    (State.Keeps.foldl State.restartCall_keeps allPositions _)).trans
    (State.Keeps.foldl State.restartRecovery_keeps allPositions _)).trans
    (State.mapPos_keeps fun _ x => x.restart_keeps)).trans (State.modLink_keeps ..)

/-! ### Power-on reset -/

theorem State.reset_pos (p : PosId) : State.reset.pos p = Position.reset := by
  simp [State.reset, State.pos]

theorem State.reset_bounded : State.reset.Bounded :=
  ⟨fun p => by rw [State.reset_pos]; exact Nat.zero_le 7, Nat.zero_le 32, .nil, fun _ h => nomatch h⟩

theorem State.reset_outputsFollow (p : PosId) : (State.reset.pos p).OutputsFollow := by
  rw [State.reset_pos]
  exact .of_off rfl rfl rfl

theorem State.reset_settingsInRange : State.reset.SettingsInRange := by
  decide +kernel

theorem State.reset_consecutive : State.reset.queue.Consecutive := fun _ h => absurd h (Nat.not_lt_zero _)

theorem execPowerOnReset_keeps (s : State) : s.Keeps { State.reset with pending := s.pending } :=
  ⟨fun _ => State.reset_outputsFollow, fun _ => State.reset_settingsInRange, fun _ => State.reset_bounded,
    fun _ => State.reset_consecutive⟩

/-! ### The commands -/

/-- What the conditional effect of a command keeps. -/
theorem State.Keeps.ite {s t u : State} (b : Bool) (h1 : s.Keeps t) (h2 : s.Keeps u) : s.Keeps (if b then t else u) := by
  split
  · exact h1
  · exact h2

theorem execUnitExpiry_keeps (p : PosId) (s : State) : ∃ t, execUnitExpiry p s = .next t ∧ s.Keeps t := by
  refine ⟨_, rfl, .ite _ ?_ (.refl s)⟩
  split
  case h_1 => exact (s.meteringExpiry_keeps p).trans (State.conclude_keeps ..)
  case h_2 => exact (s.lastUnitExpiry_keeps p).trans (State.conclude_keeps ..)
  all_goals exact .refl s

theorem execBusTestEnd_keeps (e : EngineId) (pass : Bool) (s : State) :
    ∃ t, execBusTestEnd e pass s = .next t ∧ s.Keeps t := by
  refine ⟨_, rfl, ?_⟩
  split
  · refine .ite _ ?_ ?_
    · exact ((s.modEng_keeps ..).trans (State.takeHome_keeps ..)).trans (State.serve_upToGrants _).keeps
    · exact ((s.modEng_keeps ..).trans (State.relieveLane_keeps ..)).trans (State.serve_upToGrants _).keeps
  · exact .refl s

theorem State.takeSnapshot_keeps (s : State) : s.Keeps s.takeSnapshot := .of_frame rfl rfl rfl rfl rfl rfl

/-- Every command answers a state that keeps the four laws. -/
theorem exec_keeps (c : Instr) (s : State) : ∃ t, exec c s = .next t ∧ s.Keeps t := by
  cases c with
  | powerOnReset => exact ⟨_, rfl, execPowerOnReset_keeps s⟩
  | inputSample p v =>
    refine ⟨_, rfl, .ite _ (.refl s) (s.sample_keeps p v)⟩
  | meteringTick => exact ⟨_, rfl, State.mapPos_keeps fun _ _ => ⟨id, id⟩⟩
  | unitExpiry p => exact execUnitExpiry_keeps p s
  | answerWaitExpiry p => exact ⟨_, rfl, .ite _ ((s.endCall_keeps ..).trans (State.conclude_keeps ..)) (.refl s)⟩
  | toneExpiry p =>
    exact ⟨_, rfl, .ite _ (State.modPos_keeps
      (.outputs_off rfl rfl id (fun h => absurd (show false = true from h) nofun) rfl)) (.refl s)⟩
  | clearWaitExpiry p =>
    exact ⟨_, rfl, .ite _ ((State.modPos_keeps
      (.outputs_off rfl rfl (fun h => absurd (show false = true from h) nofun) id rfl)).trans
        (State.conclude_keeps ..)) (.refl s)⟩
  | stampAdvance => exact ⟨_, rfl, .of_frame rfl rfl rfl rfl rfl rfl⟩
  | snapshotIntervalExpiry => exact ⟨_, rfl, .ite _ (.of_frame rfl rfl rfl rfl rfl rfl) (.refl s)⟩
  | busTestEnd e pass => exact execBusTestEnd_keeps e pass s
  | selectAnswer e a => exact ⟨_, rfl, s.busStep_keeps ..⟩
  | headerReadDone e bytes => exact ⟨_, rfl, s.busStep_keeps ..⟩
  | readySignal e => exact ⟨_, rfl, s.busStep_keeps ..⟩
  | burnTimeout e => exact ⟨_, rfl, s.busStep_keeps ..⟩
  | busStall e => exact ⟨_, rfl, .ite _ (s.modEng_keeps ..) (.refl s)⟩
  | identifyCompletion e => exact ⟨_, rfl, s.completeKind_keeps ..⟩
  | verifyCompletion e => exact ⟨_, rfl, s.completeKind_keeps ..⟩
  | burnCompletion e => exact ⟨_, rfl, s.completeKind_keeps ..⟩
  | listedCardNotice p =>
    refine ⟨_, rfl, ?_⟩
    split
    · exact .refl s
    · exact s.takeNotice_keeps ..
  | frameDiscard why => exact ⟨_, rfl, s.discardFrame_keeps⟩
  | frameGapTimeout => exact ⟨_, rfl, s.discardFrame_keeps⟩
  | unknownRequest type body =>
    exact ⟨_, rfl, .ite _ (State.request_keeps _ (unknownRequestRule_keeps type s)) (.refl s)⟩
  | responseSent => exact ⟨_, rfl, .ite _ s.responseLeaves_keeps (.refl s)⟩
  | status => exact ⟨_, rfl, State.request_keeps _ (.refl s)⟩
  | changes => exact ⟨_, rfl, State.request_keeps _ (changesRule_keeps s)⟩
  | position p => exact ⟨_, rfl, State.request_keeps _ (onPosition_keeps p fun _ => .refl s)⟩
  | route p cls => exact ⟨_, rfl, State.request_keeps _ (onPosition_keeps p fun q => routeRule_keeps cls q s)⟩
  | release p => exact ⟨_, rfl, State.request_keeps _ (onPosition_keeps p fun q => releaseRule_keeps q s)⟩
  | block p => exact ⟨_, rfl, State.request_keeps _ (onPosition_keeps p fun q => s.blockPosition_keeps q)⟩
  | unblock p => exact ⟨_, rfl, State.request_keeps _ (onPosition_keeps p fun q => unblockRule_keeps q s)⟩
  | profile p prof => exact ⟨_, rfl, State.request_keeps _ (onPosition_keeps p fun q => profileRule_keeps prof q s)⟩
  | freeze p mark => exact ⟨_, rfl, State.request_keeps _ (onPosition_keeps p fun q => freezeRule_keeps mark q s)⟩
  | allocate p alloc =>
    exact ⟨_, rfl, State.request_keeps _ (onPosition_keeps p fun q => allocateRule_keeps alloc q s)⟩
  | laneMode e mode len auto => exact ⟨_, rfl, State.request_keeps _ (laneModeRule_keeps e mode len auto s)⟩
  | laneDisable e => exact ⟨_, rfl, State.request_keeps _ (onEngine_keeps e fun k => s.modEng_keeps k _)⟩
  | laneEnable e => exact ⟨_, rfl, State.request_keeps _ (onEngine_keeps e fun k => laneEnableRule_keeps k s)⟩
  | laneTest e => exact ⟨_, rfl, State.request_keeps _ (onEngine_keeps e fun k => laneTestRule_keeps k s)⟩
  | tariffStage cls band defined period step initial follow =>
    exact ⟨_, rfl, State.request_keeps _ (tariffStageRule_keeps cls band defined period step initial follow s)⟩
  | tariffCopy => exact ⟨_, rfl, State.request_keeps _ (tariffCopyRule_keeps s)⟩
  | tariffCommit edition => exact ⟨_, rfl, State.request_keeps _ (tariffCommitRule_keeps edition s)⟩
  | tariffRead sel cls band => exact ⟨_, rfl, State.request_keeps _ (tariffReadRule_keeps sel cls band s)⟩
  | band b => exact ⟨_, rfl, State.request_keeps _ (bandRule_keeps b s)⟩
  | recordPeek => exact ⟨_, rfl, State.request_keeps _ (recordPeekRule_keeps s)⟩
  | recordRelease seq => exact ⟨_, rfl, State.request_keeps _ (recordReleaseRule_keeps seq s)⟩
  | tearRead index => exact ⟨_, rfl, State.request_keeps _ (tearReadRule_keeps index s)⟩
  | tearDelete series serial => exact ⟨_, rfl, State.request_keeps _ (tearDeleteRule_keeps series serial s)⟩
  | counters => exact ⟨_, rfl, State.request_keeps _ (.refl s)⟩
  | snapshot => exact ⟨_, rfl, State.request_keeps _ s.takeSnapshot_keeps⟩
  | set code value => exact ⟨_, rfl, State.request_keeps _ (setRule_keeps code value s)⟩
  | clock stamp => exact ⟨_, rfl, State.request_keeps _ (clockRule_keeps stamp s)⟩
  | clearAlerts alerts => exact ⟨_, rfl, State.request_keeps _ (clearAlertsRule_keeps alerts s)⟩
  | linkRate code => exact ⟨_, rfl, State.request_keeps _ (linkRateRule_keeps code s)⟩
  | restart => exact ⟨_, rfl, State.request_keeps _ s.restart_keeps⟩
  | linkByteReceived b =>
    refine ⟨_, rfl, ?_⟩
    split
    · split
      · exact s.modLink_keeps _
      · exact .refl s
    · exact s.frameByte_keeps ..

/-- Every step keeps the four laws. -/
theorem step_keeps {s t : State} (h : step s = .next t) : s.Keeps t := by
  unfold step at h
  split at h
  · cases h
    exact .of_frame rfl rfl rfl rfl rfl rfl
  · next c rest _ =>
    obtain ⟨u, hu, hk⟩ := exec_keeps c { s with pending := rest }
    rw [hu] at h
    cases h
    exact .trans (t := { s with pending := rest }) (.of_frame rfl rfl rfl rfl rfl rfl) hk

/-! ### The statements -/

/-- Settles O55: both laws are parts of `State.Keeps`, which every step has. -/
theorem stepKeepsOutputsAndSettings : Obligations.StepKeepsOutputsAndSettings := by
  unfold Obligations.StepKeepsOutputsAndSettings
  exact ⟨fun _ _ hs h => (step_keeps h).outputs hs, fun _ _ hs h => (step_keeps h).ranges hs⟩

/-- Settles O56: the debts keep their ceiling together with the soundness of the tear list, since what is passed to the
list is a debt; the sequences stand by themselves. -/
theorem stepKeepsTearListAndQueue : Obligations.StepKeepsTearListAndQueue := by
  unfold Obligations.StepKeepsTearListAndQueue
  exact ⟨fun _ _ hd ht h => (step_keeps h).bounded ⟨hd, ht⟩, fun _ _ hs h => (step_keeps h).consecutive hs⟩

theorem State.reset_conserved : State.reset.Conserved := by decide +kernel

/-- Settles O57, law by law. -/
theorem lawsHoldAtReset : Obligations.LawsHoldAtReset := by
  unfold Obligations.LawsHoldAtReset
  exact ⟨State.reset_outputsFollow, State.reset_settingsInRange, State.reset_bounded.1, State.reset_bounded.2,
    State.reset_consecutive, State.reset_conserved⟩

end Sys2Proof.Machine
end

section
/-!
PROOFS. The laws of one position that hold in every state the block can come to, stronger than the statements need them
so that each change keeps them: where debt may stand, what an operation in flight presupposes, and what METERING leaves
on the card. `Position.Rest` is the part of them a position with no call and no recovery has, whatever its state reads.
-/

namespace Sys2Proof.Machine

/-! ### The laws of a position -/

/-- What an operation in flight presupposes (R100, R101): none pending beside it; a BURN a debt without doubt, a VERIFY
a doubt; the discard mark only on an IDENTIFY (R23). -/
def Position.Running (x : Position) (f : InFlight) : Prop :=
  x.pendingOp = none ∧
    (f.op ≠ .identify → f.discard = false ∧ 1 ≤ x.debt ∧ (f.op = .burn → x.doubt = none) ∧
      (f.op = .verify → x.doubt ≠ none))

/-- The laws of a position, at every instant of an event. -/
structure Position.Lawful (x : Position) : Prop where
  ceiling : x.debt ≤ 7
  covered : x.debt ≤ x.remaining
  cardless : x.identity = none → x.remaining = 0
  doubted : x.doubt ≠ none → 1 ≤ x.debt
  owing : x.debt ≠ 0 →
    x.state ∈ [.metering, .lastUnit, .clearing] ∨ (x.state = .recovering ∧ x.recovery ≠ none)
  reserved : x.ReservationLaw
  context : x.ContextLaw
  lost : x.cardLost = true → x.cardLeft = true ∧ x.reservation = true ∧ (x.state = .clearing ∨ x.state = .recovering)
  metered : x.state = .metering → ∀ n, x.step = some n → x.debt + n ≤ x.remaining
  running : ∀ f, x.inFlight = some f → x.Running f

/-- What holds at a position between events: a card lost mark waits for an operation, and with none in flight the
operation that waits is the one derived (R101, R118). -/
structure Position.Settled (x : Position) : Prop where
  awaited : x.cardLost = true → x.inFlight ≠ none
  derived : x.inFlight = none → x.pendingOp = x.derived

/-- A position with no call and no recovery: nothing is owed, nothing reserved, and at most an IDENTIFY runs. -/
structure Position.Rest (x : Position) : Prop where
  debt : x.debt = 0
  doubt : x.doubt = none
  call : x.call = none
  recovery : x.recovery = none
  reservation : x.reservation = false
  cardLost : x.cardLost = false
  cardless : x.identity = none → x.remaining = 0
  running : ∀ f, x.inFlight = some f → x.pendingOp = none ∧ f.op = .identify

/-- The states of a call and of its clearing (R17). -/
def PosState.called : PosState → Prop
  | .routed | .metering | .lastUnit | .freeCall | .clearing => True
  | .vacant | .reading | .refused | .recovering | .ready | .blocked => False

theorem PosState.called_iff (st : PosState) : st.called ↔ st ∈ [.routed, .metering, .lastUnit, .freeCall, .clearing] := by
  cases st <;> simp [PosState.called]

theorem PosState.called_of_inCall {st : PosState} (h : st.inCall = true) : st.called := by
  cases st <;> simp_all [PosState.called, PosState.inCall]

/-- A position at rest in a state of no call is lawful. -/
theorem Position.Rest.lawful {x : Position} (h : x.Rest) (hs : ¬x.state.called) : x.Lawful where
  ceiling := by rw [h.debt]; exact Nat.zero_le 7
  covered := by rw [h.debt]; exact Nat.zero_le _
  cardless := h.cardless
  doubted hd := absurd h.doubt hd
  owing hd := absurd h.debt hd
  reserved := by
    rw [PosState.called_iff] at hs
    simp [Position.ReservationLaw, h.reservation, h.recovery, hs]
  context := by
    rw [PosState.called_iff] at hs
    simp [Position.ContextLaw, h.call, h.recovery, hs]
  lost hl := absurd hl (by simp [h.cardLost])
  metered hm := absurd (by rw [hm]; trivial) hs
  running f hf := ⟨(h.running f hf).1, fun hn => absurd (h.running f hf).2 hn⟩

/-- A lawful position in a state of no call, and with no recovery, is at rest. -/
theorem Position.Lawful.rest {x : Position} (h : x.Lawful) (hs : ¬x.state.called)
    (hr : x.state = .recovering → x.reservation = false) : x.Rest := by
  have hs' := mt x.state.called_iff.mpr hs
  have hrec : x.recovery = none := by
    refine Classical.byContradiction fun hne => ?_
    have hst := h.context.2 hne
    have := h.reserved.mpr (.inr ⟨hst, hne⟩)
    rw [hr hst] at this
    cases this
  have hres : x.reservation = false := by
    rw [Bool.eq_false_iff]
    intro ht
    rcases h.reserved.mp ht with hc | ⟨-, hne⟩
    · exact hs' hc
    · exact hne hrec
  have hdebt : x.debt = 0 := by
    refine Classical.byContradiction fun hne => ?_
    rcases h.owing hne with hc | ⟨-, hc⟩
    · exact hs' (by revert hc; cases x.state <;> simp)
    · exact hc hrec
  refine ⟨hdebt, ?_, ?_, hrec, hres, ?_, h.cardless, fun f hf => ⟨(h.running f hf).1, ?_⟩⟩
  · refine Classical.byContradiction fun hne => ?_
    have := h.doubted hne
    omega
  · refine Classical.byContradiction fun hne => ?_
    exact hs' (h.context.1.mp hne)
  · rw [Bool.eq_false_iff]
    intro hl
    rw [(h.lost hl).2.1] at hres
    cases hres
  · refine Classical.byContradiction fun hne => ?_
    have := ((h.running f hf).2 hne).2.1
    omega

/-- At rest nothing but a READING without a card needs an operation (R100). -/
theorem Position.Rest.derived {x : Position} (h : x.Rest) (hs : x.state = .reading → x.identity ≠ none) :
    x.derived = none := by
  unfold Position.derived
  simp only [h.doubt, h.debt]
  rw [if_neg]
  · simp
  · simp only [Bool.and_eq_true, decide_eq_true_eq, Option.isNone_iff_eq_none, not_and]
    exact hs

/-! ### Changes that no law sees -/

/-- The fields of a position the laws speak of. -/
def Position.view (x : Position) :=
  (x.state, x.identity, x.remaining, x.debt, x.doubt, x.cardLost, x.cardLeft, x.reservation, x.inFlight, x.pendingOp,
    x.allocation, x.card.accepted, x.faulty, x.call.isSome, x.step, x.recovery.isSome)

/-- Positions with the same view have the same laws. -/
theorem Position.Lawful.of_view {x y : Position} (h : x.Lawful) (hv : y.view = x.view) : y.Lawful := by
  simp only [Position.view, Prod.mk.injEq] at hv
  obtain ⟨h1, h2, h3, h4, h5, h6, h7, h8, h9, h10, -, -, -, h14, h15, h16⟩ := hv
  have hc : y.call ≠ none ↔ x.call ≠ none := by rw [← Option.isSome_iff_ne_none, h14, Option.isSome_iff_ne_none]
  have hr : y.recovery ≠ none ↔ x.recovery ≠ none := by
    rw [← Option.isSome_iff_ne_none, h16, Option.isSome_iff_ne_none]
  obtain ⟨a1, a2, a3, a4, a5, a6, a7, a8, a9, a10⟩ := h
  unfold Position.ReservationLaw at a6
  unfold Position.ContextLaw at a7
  unfold Position.Running at a10
  constructor
  case reserved => unfold Position.ReservationLaw; rw [h1, h8, hr]; exact a6
  case context => unfold Position.ContextLaw; rw [h1, hc, hr]; exact a7
  case running => unfold Position.Running; rw [h4, h5, h9, h10]; exact a10
  case owing => rw [h1, h4, hr]; exact a5
  case ceiling => rw [h4]; exact a1
  case covered => rw [h4, h3]; exact a2
  case cardless => rw [h2, h3]; exact a3
  case doubted => rw [h4, h5]; exact a4
  case lost => rw [h1, h6, h7, h8]; exact a8
  case metered => rw [h1, h3, h4, h15]; exact a9

theorem Position.derived_of_view {x y : Position} (hv : y.view = x.view) : y.derived = x.derived := by
  simp only [Position.view, Prod.mk.injEq] at hv
  obtain ⟨h1, h2, -, h4, h5, h6, -, -, -, -, -, h12, h13, -⟩ := hv
  unfold Position.derived Position.present
  rw [h1, h2, h4, h5, h6, h12, h13]

theorem Position.Settled.of_view {x y : Position} (h : x.Settled) (hv : y.view = x.view) : y.Settled := by
  have hd := Position.derived_of_view hv
  simp only [Position.view, Prod.mk.injEq] at hv
  obtain ⟨-, -, -, -, -, h6, -, -, h9, h10, -⟩ := hv
  exact ⟨by rw [h6, h9]; exact h.awaited, by rw [h9, h10, hd]; exact h.derived⟩

/-! ### Arrivals at rest -/

theorem Position.Rest.enter {x : Position} (h : x.Rest) (st : PosState) : (x.enter st).Rest :=
  ⟨h.debt, h.doubt, h.call, h.recovery, h.reservation, h.cardLost, h.cardless, h.running⟩

/-- The fields of a position at rest, its card aside. -/
theorem Position.Rest.of_fields {x y : Position} (h : x.Rest) (h1 : y.debt = x.debt) (h2 : y.doubt = x.doubt)
    (h3 : y.call = x.call) (h4 : y.recovery = x.recovery) (h5 : y.reservation = x.reservation)
    (h6 : y.cardLost = x.cardLost) (h7 : y.identity = none → y.remaining = 0)
    (h8 : y.inFlight = x.inFlight) (h9 : y.pendingOp = x.pendingOp) : y.Rest :=
  ⟨h1.trans h.debt, h2.trans h.doubt, h3.trans h.call, h4.trans h.recovery, h5.trans h.reservation,
    h6.trans h.cardLost, h7, by rw [h8, h9]; exact h.running⟩

/-- An arrival leaves a position at rest, in a state of no call and not in RECOVERING, with its operation as it was. -/
structure Position.Arrived (x y : Position) : Prop where
  rest : y.Rest
  uncalled : ¬y.state.called
  settled : y.state ≠ .recovering
  inFlight : y.inFlight = x.inFlight
  pendingOp : y.pendingOp = x.pendingOp
  allocation : y.allocation = x.allocation
  present : y.card.accepted = x.card.accepted

section Arrivals
variable {x : Position} (h : x.Rest)
include h

theorem Position.Rest.arriveBlocked : x.Arrived x.arriveBlocked where
  rest := h.of_fields rfl rfl rfl rfl rfl rfl (fun _ => rfl) rfl rfl
  uncalled := id
  settled := nofun
  inFlight := rfl
  pendingOp := rfl
  allocation := rfl
  present := rfl

theorem Position.Rest.startReading : x.Arrived x.startReading where
  rest := h.of_fields rfl rfl rfl rfl rfl rfl h.cardless rfl rfl
  uncalled := id
  settled := nofun
  inFlight := rfl
  pendingOp := rfl
  allocation := rfl
  present := rfl

theorem Position.Rest.arriveVacant : x.Arrived x.arriveVacant := by
  unfold Position.arriveVacant
  split
  · exact h.arriveBlocked
  · dsimp only
    split <;>
      exact ⟨h.of_fields rfl rfl rfl rfl rfl rfl (fun _ => rfl) rfl rfl, id, nofun, rfl, rfl, rfl, rfl⟩

theorem Position.Rest.arriveRefused (why : RefusalCause) : x.Arrived (x.arriveRefused why) := by
  unfold Position.arriveRefused
  split
  · exact h.arriveBlocked
  · exact ⟨h.of_fields rfl rfl rfl rfl rfl rfl h.cardless rfl rfl, id, nofun, rfl, rfl, rfl, rfl⟩

theorem Position.Rest.arriveReadyUnlisted : x.Arrived x.arriveReadyUnlisted := by
  unfold Position.arriveReadyUnlisted
  split
  · exact h.arriveBlocked
  · exact ⟨h.enter .ready, id, nofun, rfl, rfl, rfl, rfl⟩

theorem Position.Rest.leaveWait : x.Arrived x.leaveWait := by
  unfold Position.leaveWait
  split
  · exact h.arriveRefused .empty
  · exact h.arriveReadyUnlisted

end Arrivals

/-! ### Calls -/

/-- A call starts at a position at rest (R27, R28). -/
theorem Position.Rest.lawful_of_start {x y : Position} (h : x.Rest) {c : Call}
    (hs : y.state = .routed ∨ y.state = .freeCall) (h1 : y.debt = x.debt) (h2 : y.doubt = x.doubt)
    (h3 : y.call = some c) (h4 : y.recovery = x.recovery) (h5 : y.reservation = true)
    (h6 : y.cardLost = x.cardLost) (h7 : y.identity = x.identity) (h8 : y.remaining = x.remaining)
    (h9 : y.inFlight = x.inFlight) (h10 : y.pendingOp = x.pendingOp) : y.Lawful := by
  have hd : y.debt = 0 := h1.trans h.debt
  have hrec : y.recovery = none := h4.trans h.recovery
  constructor
  case ceiling => omega
  case covered => omega
  case cardless => rw [h7, h8]; exact h.cardless
  case doubted => exact fun hn => absurd (h2.trans h.doubt) hn
  case owing => exact fun hn => absurd hd hn
  case reserved => rcases hs with hs | hs <;> simp [Position.ReservationLaw, h5, hs]
  case context => rcases hs with hs | hs <;> simp [Position.ContextLaw, h3, hs, hrec]
  case lost => exact fun hl => absurd hl (by simp [h6, h.cardLost])
  case metered => rcases hs with hs | hs <;> simp [hs]
  case running =>
    intro f hf
    have hr := h.running f (h9 ▸ hf)
    exact ⟨h10.trans hr.1, fun hn => absurd hr.2 hn⟩

/-- A lawful position in a call has a call and a reservation, and its card has not been lost. -/
theorem Position.Lawful.inCall {x : Position} (h : x.Lawful) (hs : x.state.inCall = true) :
    x.call ≠ none ∧ x.reservation = true ∧ x.cardLost = false ∧ x.recovery = none := by
  have hc := x.state.called_iff.mp (PosState.called_of_inCall hs)
  refine ⟨h.context.1.mpr hc, h.reserved.mpr (.inl hc), ?_, ?_⟩
  · rw [Bool.eq_false_iff]
    intro hl
    rcases (h.lost hl).2.2 with hst | hst <;> simp [hst, PosState.inCall] at hs
  · refine Classical.byContradiction fun hne => ?_
    simp [h.context.2 hne, PosState.inCall] at hs

/-- The change of a position at an ender. -/
theorem Position.endCall_lawful {x : Position} (h : x.Lawful) (hs : x.state.inCall = true) (why : EndCause)
    (now : Word32) (wait : Nat) :
    ((x.mapCall (·.finish why now)).enterClearing wait).Lawful := by
  obtain ⟨hcall, hres, hlost, hrec⟩ := h.inCall hs
  obtain ⟨c, hc⟩ := Option.ne_none_iff_exists'.mp hcall
  have key : ∀ y : Position, y.debt = x.debt → y.remaining = x.remaining → y.identity = x.identity →
      y.doubt = x.doubt → y.state = .clearing → y.reservation = x.reservation → y.call ≠ none →
      y.recovery = x.recovery → y.cardLost = x.cardLost → y.inFlight = x.inFlight → y.pendingOp = x.pendingOp →
      y.Lawful := by
    intro y h1 h2 h3 h4 h5 h6 h7 h8 h9 h10 h11
    constructor
    case ceiling => rw [h1]; exact h.ceiling
    case covered => rw [h1, h2]; exact h.covered
    case cardless => rw [h2, h3]; exact h.cardless
    case doubted => rw [h1, h4]; exact h.doubted
    case owing => simp [h5]
    case reserved => simp [Position.ReservationLaw, h5, h6, hres]
    case context => simp [Position.ContextLaw, h5, h7, h8, hrec]
    case lost => simp [h9, hlost]
    case metered => simp [h5]
    case running => unfold Position.Running; rw [h1, h4, h10, h11]; exact h.running
  have hm : (x.mapCall (·.finish why now)).call ≠ none := by simp [Position.mapCall, hc]
  unfold Position.enterClearing
  dsimp only
  split
  · exact key _ rfl rfl rfl rfl rfl rfl hm rfl rfl rfl rfl
  · exact key _ rfl rfl rfl rfl rfl rfl hm rfl rfl rfl rfl

/-! ### Units counted -/

@[simp] theorem Position.mapUnits_state (f : Units → Units) (x : Position) : (x.mapUnits f).state = x.state := by
  unfold Position.mapUnits; split <;> rfl

@[simp] theorem Position.mapUnits_call (f : Units → Units) (x : Position) :
    (x.mapUnits f).call = x.call.map fun c => { c with units := f c.units } := by
  unfold Position.mapUnits
  split
  · next c hc => simp [hc]
  · next hc => simp [hc]

/-- Counting units changes nothing the laws see. -/
theorem Position.mapUnits_view (f : Units → Units) (x : Position) : (x.mapUnits f).view = x.view := by
  unfold Position.mapUnits
  split
  · next c hc => simp [Position.view, Position.step, hc]
  · next hc => simp [Position.view, Position.step, hc]

/-- The parts of a view that a change of debt, remaining and doubt leaves. -/
structure Position.SameRole (x y : Position) : Prop where
  state : y.state = x.state
  identity : y.identity = x.identity
  reservation : y.reservation = x.reservation
  cardLeft : y.cardLeft = x.cardLeft
  inFlight : y.inFlight = x.inFlight
  call : y.call.isSome = x.call.isSome
  step : y.step = x.step
  recovery : y.recovery.isSome = x.recovery.isSome

theorem Position.SameRole.of_view {x y : Position} (h : y.view = x.view) : x.SameRole y := by
  simp only [Position.view, Prod.mk.injEq] at h
  obtain ⟨h1, h2, -, -, -, -, h7, h8, h9, -, -, -, -, h14, h15, h16⟩ := h
  exact ⟨h1, h2, h8, h7, h9, h14, h15, h16⟩

theorem Position.SameRole.trans {x y z : Position} (h1 : x.SameRole y) (h2 : y.SameRole z) : x.SameRole z :=
  ⟨h2.state.trans h1.state, h2.identity.trans h1.identity, h2.reservation.trans h1.reservation,
    h2.cardLeft.trans h1.cardLeft, h2.inFlight.trans h1.inFlight, h2.call.trans h1.call, h2.step.trans h1.step,
    h2.recovery.trans h1.recovery⟩

/-- Debt, remaining and doubt move at a position with nothing in flight, its state and its call as they were. -/
theorem Position.Lawful.of_units {x y : Position} (h : x.Lawful) (hr : x.SameRole y) (hf : x.inFlight = none)
    (h1 : y.debt ≤ x.debt) (h2 : y.debt ≤ y.remaining) (h3 : x.identity = none → y.remaining = 0)
    (h4 : y.doubt ≠ none → 1 ≤ y.debt) (h5 : y.cardLost = true → x.cardLost = true)
    (h6 : x.state = .metering → ∀ n, x.step = some n → y.debt + n ≤ y.remaining) : y.Lawful := by
  have hc : y.call ≠ none ↔ x.call ≠ none := by
    rw [← Option.isSome_iff_ne_none, hr.call, Option.isSome_iff_ne_none]
  have hrec : y.recovery ≠ none ↔ x.recovery ≠ none := by
    rw [← Option.isSome_iff_ne_none, hr.recovery, Option.isSome_iff_ne_none]
  have h7 := h.reserved
  have h8 := h.context
  unfold Position.ReservationLaw at h7
  unfold Position.ContextLaw at h8
  constructor
  case ceiling => exact Nat.le_trans h1 h.ceiling
  case covered => exact h2
  case cardless => rw [hr.identity]; exact h3
  case doubted => exact h4
  case owing =>
    intro hd
    rw [hr.state, hrec]
    exact h.owing fun h0 => hd (by omega)
  case reserved => unfold Position.ReservationLaw; rw [hr.state, hr.reservation, hrec]; exact h7
  case context => unfold Position.ContextLaw; rw [hr.state, hc, hrec]; exact h8
  case lost => rw [hr.state, hr.reservation, hr.cardLeft]; exact fun hl => h.lost (h5 hl)
  case metered => rw [hr.state, hr.step]; exact h6
  case running => rw [hr.inFlight, hf]; exact fun _ hn => nomatch hn

/-- The debt is gone, with its doubt (R78, R117). -/
theorem Position.Lawful.of_cleared {x y : Position} (h : x.Lawful) (hr : x.SameRole y)
    (hf : ∀ f, x.inFlight = some f → f.op = .identify) (hp : y.pendingOp = x.pendingOp) (h1 : y.debt = 0)
    (h2 : y.doubt = none) (h3 : y.cardLost = false) (h4 : y.remaining = x.remaining) : y.Lawful := by
  have hc : y.call ≠ none ↔ x.call ≠ none := by
    rw [← Option.isSome_iff_ne_none, hr.call, Option.isSome_iff_ne_none]
  have hrec : y.recovery ≠ none ↔ x.recovery ≠ none := by
    rw [← Option.isSome_iff_ne_none, hr.recovery, Option.isSome_iff_ne_none]
  have h7 := h.reserved
  have h8 := h.context
  unfold Position.ReservationLaw at h7
  unfold Position.ContextLaw at h8
  constructor
  case ceiling => omega
  case covered => omega
  case cardless => rw [hr.identity, h4]; exact h.cardless
  case doubted => exact fun hn => absurd h2 hn
  case owing => exact fun hn => absurd h1 hn
  case reserved => unfold Position.ReservationLaw; rw [hr.state, hr.reservation, hrec]; exact h7
  case context => unfold Position.ContextLaw; rw [hr.state, hc, hrec]; exact h8
  case lost => simp [h3]
  case metered =>
    rw [hr.state, hr.step, h1, h4]
    intro hm n hn
    have := h.metered hm n hn
    omega
  case running =>
    intro f hff
    rw [hr.inFlight] at hff
    exact ⟨hp.trans (h.running f hff).1, fun hn => absurd (hf f hff) hn⟩

theorem Position.debtLost_role (x : Position) : x.SameRole x.debtLost :=
  .trans (.of_view (x.mapUnits_view _)) ⟨rfl, rfl, rfl, rfl, rfl, rfl, rfl, rfl⟩

theorem Position.unitBurned_role (x : Position) : x.SameRole x.unitBurned :=
  .trans (.of_view (x.mapUnits_view _)) ⟨rfl, rfl, rfl, rfl, rfl, rfl, rfl, rfl⟩

theorem Position.markAnomaly_view (x : Position) : x.markAnomaly.view = x.view := x.mapUnits_view _

/-- What counting units leaves of the fields it does not touch, read off the view. -/
theorem Position.unitBurned_fields (x : Position) :
    x.unitBurned.debt = x.debt - 1 ∧ x.unitBurned.remaining = x.remaining ∧ x.unitBurned.doubt = x.doubt ∧
      x.unitBurned.cardLost = x.cardLost ∧ x.unitBurned.pendingOp = x.pendingOp := by
  have h := x.mapUnits_view fun u => { u with burned := u.burned + 1 }
  simp only [Position.view, Prod.mk.injEq] at h
  obtain ⟨-, -, h3, -, h5, h6, -, -, -, h10, -⟩ := h
  exact ⟨rfl, h3, h5, h6, h10⟩

theorem Position.debtLost_fields (x : Position) :
    x.debtLost.debt = 0 ∧ x.debtLost.remaining = x.remaining ∧ x.debtLost.doubt = none ∧
      x.debtLost.cardLost = false ∧ x.debtLost.pendingOp = x.pendingOp := by
  have h := x.mapUnits_view fun u => { u with writtenOff := u.writtenOff + x.debt }
  simp only [Position.view, Prod.mk.injEq] at h
  obtain ⟨-, -, h3, -, -, -, -, -, -, h10, -⟩ := h
  exact ⟨rfl, h3, rfl, rfl, h10⟩

/-! ### Metering -/

/-- The laws of a position in METERING or LAST_UNIT but for what METERING must leave on the card. -/
structure Position.Metering (x : Position) : Prop where
  state : x.state = .metering ∨ x.state = .lastUnit
  ceiling : x.debt ≤ 7
  covered : x.debt ≤ x.remaining
  cardless : x.identity = none → x.remaining = 0
  doubted : x.doubt ≠ none → 1 ≤ x.debt
  call : x.call ≠ none
  recovery : x.recovery = none
  reservation : x.reservation = true
  cardLost : x.cardLost = false
  running : ∀ f, x.inFlight = some f → x.Running f

theorem Position.Metering.lawful {x : Position} (h : x.Metering)
    (hm : x.state = .metering → ∀ n, x.step = some n → x.debt + n ≤ x.remaining) : x.Lawful := by
  constructor
  case ceiling => exact h.ceiling
  case covered => exact h.covered
  case cardless => exact h.cardless
  case doubted => exact h.doubted
  case owing => rcases h.state with hs | hs <;> simp [hs]
  case reserved => rcases h.state with hs | hs <;> simp [Position.ReservationLaw, hs, h.reservation]
  case context => rcases h.state with hs | hs <;> simp [Position.ContextLaw, hs, h.call, h.recovery]
  case lost => simp [h.cardLost]
  case metered => exact hm
  case running => exact h.running

theorem Position.Lawful.metering {x : Position} (h : x.Lawful) (hs : x.state = .metering ∨ x.state = .lastUnit) :
    x.Metering := by
  have hin : x.state.inCall = true := by rcases hs with hs | hs <;> simp [hs, PosState.inCall]
  obtain ⟨hcall, hres, hlost, hrec⟩ := h.inCall hin
  exact ⟨hs, h.ceiling, h.covered, h.cardless, h.doubted, hcall, hrec, hres, hlost, h.running⟩

/-- The last-unit test restores what METERING must leave on the card (R70). -/
theorem Position.Metering.lastUnitTest {x : Position} (h : x.Metering) : x.lastUnitTest.Lawful := by
  unfold Position.lastUnitTest
  split
  · next hn => exact h.lawful fun _ n hs => by simp [hn] at hs
  · next n hn =>
    split
    · have hl : x.enterLastUnit.Metering :=
        ⟨.inr rfl, h.ceiling, h.covered, h.cardless, h.doubted, h.call, h.recovery, h.reservation, h.cardLost, h.running⟩
      exact hl.lawful fun hs => nomatch hs
    · next hlt =>
      refine h.lawful fun hs m hm => ?_
      rw [hn] at hm
      cases hm
      have := not_and.mp hlt hs
      omega

theorem Position.lastUnitTest_fields (x : Position) :
    x.lastUnitTest.inFlight = x.inFlight ∧ x.lastUnitTest.debt = x.debt ∧
      x.lastUnitTest.reservation = x.reservation ∧ x.lastUnitTest.cardLost = x.cardLost := by
  unfold Position.lastUnitTest
  split
  · exact ⟨rfl, rfl, rfl, rfl⟩
  · split <;> exact ⟨rfl, rfl, rfl, rfl⟩

/-! ### Recoveries -/

theorem handOverDebt_le (t : TearEntry) (r : Nat) : handOverDebt t r ≤ 7 ∧ handOverDebt t r ≤ r := by
  simp only [handOverDebt, Config.debtCeiling]
  omega

/-- A position that takes its entry in RECOVERING (R127, R128). -/
theorem Position.takeOver_lawful {x : Position} (h : x.Rest) (hs : x.state = .recovering) (t : TearEntry) (now : Word32) :
    (Position.takeOver t now { x with reservation := true }).Lawful := by
  have hd := handOverDebt_le t x.remaining
  constructor
  case ceiling => exact hd.1
  case covered => exact hd.2
  case cardless => exact h.cardless
  case doubted => exact fun hn => absurd rfl hn
  case owing => exact fun _ => .inr ⟨hs, nofun⟩
  case reserved => simp [Position.ReservationLaw, Position.takeOver, hs]
  case context => simp [Position.ContextLaw, Position.takeOver, hs, h.call]
  case lost => exact fun hl => absurd hl (by simp [Position.takeOver, h.cardLost])
  case metered => exact fun hm => absurd (hs.symm.trans hm) nofun
  case running =>
    intro f hf
    have hr := h.running f hf
    exact ⟨hr.1, fun hn => absurd hr.2 hn⟩

/-- A lawful position whose debt is settled is at rest once its call or recovery is closed. -/
theorem Position.Lawful.closed {x y : Position} (h : x.Lawful) (h1 : x.debt = 0) (h2 : x.cardLost = false)
    (hd : y.debt = x.debt) (hdo : y.doubt = x.doubt) (hc : y.call = none) (hr : y.recovery = none)
    (hres : y.reservation = false) (hl : y.cardLost = x.cardLost) (hi : y.identity = x.identity)
    (hrem : y.remaining = x.remaining) (hf : y.inFlight = x.inFlight) (hp : y.pendingOp = x.pendingOp) : y.Rest := by
  have hdoubt : x.doubt = none := by
    refine Classical.byContradiction fun hne => ?_
    have := h.doubted hne
    omega
  refine ⟨hd.trans h1, hdo.trans hdoubt, hc, hr, hres, hl.trans h2, ?_, fun f hff => ?_⟩
  · rw [hi, hrem]; exact h.cardless
  · have hrun := h.running f (hf ▸ hff)
    refine ⟨hp.trans hrun.1, ?_⟩
    refine Classical.byContradiction fun hne => ?_
    have := (hrun.2 hne).2.1
    omega

end Sys2Proof.Machine
end

section
/-!
PROOFS. The laws of the whole state while an event at one position is under way. `s.Good ph p k`: every other position is
calm, the engines and the positions name each other, records and reservations have room, the tear list is sound, and
the units balance but for k units in hand, taken from one place and not yet put to another (R146). Each shared operation
is followed through it once.
-/

namespace Sys2Proof.Machine

theorem word_add_zero (x : Word32) : x + 0 = x := BitVec.add_zero x

/-! ### Sums over the positions -/

/-- The sum of a number of each position. -/
def positionSum (g : PosId → Nat) : Nat := (allPositions.map g).sum

theorem positionSum_congr {f g : PosId → Nat} (h : ∀ q, f q = g q) : positionSum f = positionSum g :=
  congrArg positionSum (funext h)

theorem State.debts_eq_sum (s : State) : s.debts = positionSum fun q => (s.pos q).debt := by
  have h : s.positions.toList = allPositions.map s.pos := by
    refine List.ext_getElem (by simp [allPositions]) fun i h1 h2 => ?_
    simp [State.pos, allPositions]
  rw [State.debts, h, List.map_map]
  rfl

/-- The place a position's reservation takes (R135). -/
def Position.places (x : Position) : Nat := if x.reservation then 1 else 0

theorem State.reservations_eq_sum (s : State) : s.reservations = positionSum fun q => (s.pos q).places := by
  have h (l : List PosId) :
      (l.filter fun q => (s.pos q).reservation).length = (l.map fun q => (s.pos q).places).sum := by
    induction l with
    | nil => rfl
    | cons q l ih =>
      by_cases hq : (s.pos q).reservation = true
      · simp [hq, ih, Position.places, Nat.add_comm]
      · simp [hq, ih, Position.places]
  exact h allPositions

/-- A sum over a list when one member changes. -/
theorem list_sum_change {f g : PosId → Nat} {p : PosId} (h : ∀ q, q ≠ p → f q = g q) {l : List PosId} (hn : l.Nodup)
    (hp : p ∈ l) : (l.map f).sum + g p = (l.map g).sum + f p := by
  induction l with
  | nil => cases hp
  | cons q l ih =>
    obtain ⟨hq, hn⟩ := List.nodup_cons.mp hn
    simp only [List.map_cons, List.sum_cons]
    by_cases he : q = p
    · have hl : l.map f = l.map g := List.map_congr_left fun x hx => h x fun hxp => hq (he ▸ hxp ▸ hx)
      rw [he, hl]
      omega
    · have hl := ih hn ((List.mem_cons.mp hp).resolve_left fun hpq => he hpq.symm)
      rw [h q he]
      omega

/-- A sum over the positions when one position changes. -/
theorem sum_pos_change {s t : State} {p : PosId} (g : Position → Nat) (h : ∀ q, q ≠ p → g (t.pos q) = g (s.pos q)) :
    (positionSum fun q => g (t.pos q)) + g (s.pos p) = (positionSum fun q => g (s.pos q)) + g (t.pos p) :=
  list_sum_change (f := fun q => g (t.pos q)) (g := fun q => g (s.pos q)) h (List.nodup_finRange 48)
    (List.mem_finRange p)

/-! ### The laws of the state -/

/-- A position between events: lawful, settled, and listed while it waits (R125, R126). -/
structure State.CalmAt (s : State) (q : PosId) : Prop where
  lawful : (s.pos q).Lawful
  settled : (s.pos q).Settled
  listed : (s.pos q).waiting = true → s.listed (s.pos q) = true

/-- The course of the block: in service, or halted by RESTART (R44), which is done with the positions and states
told. -/
inductive Phase where
  | serving
  | halting (done : PosId → PosState → Prop)

/-- What a position keeps while an event at another is under way: in service it is calm; in a halt it is lawful or at
rest, and at rest where the halt is done with it. -/
def State.Steady (ph : Phase) (s : State) (q : PosId) : Prop :=
  match ph with
  | .serving => s.CalmAt q
  | .halting done => ((s.pos q).Lawful ∨ (s.pos q).Rest) ∧ (done q (s.pos q).state → (s.pos q).Rest)

/-- The units balance but for k in hand (R146). -/
def State.Balance (k : Word32) (s : State) : Prop :=
  s.acct.totals.charged =
    s.acct.totals.burned + s.acct.totals.writtenOff + BitVec.ofNat 32 (s.debts + s.tornUnits) + k

/-- The laws of the state while an event at p is under way, with k units in hand. -/
structure State.Good (ph : Phase) (p : PosId) (k : Word32) (s : State) : Prop where
  others : ∀ q, q ≠ p → s.Steady ph q
  agree : s.OperationsAgree
  room : s.queue.records.length + s.reservations ≤ 64
  sound : s.tear.Sound
  balance : s.Balance k

section
variable {ph : Phase}

theorem State.balance_zero_iff (s : State) : s.Balance 0 ↔ s.Conserved := by
  unfold State.Balance State.Conserved
  rw [word_add_zero]

/-- The laws of the state between events. -/
structure State.Inv (s : State) : Prop where
  calm : ∀ q, s.CalmAt q
  agree : s.OperationsAgree
  room : s.queue.records.length + s.reservations ≤ 64
  sound : s.tear.Sound
  conserved : s.Conserved

theorem State.Inv.good {s : State} (h : s.Inv) (p : PosId) : s.Good .serving p 0 :=
  ⟨fun q _ => h.calm q, h.agree, h.room, h.sound, s.balance_zero_iff.mpr h.conserved⟩

theorem State.Good.inv {s : State} {p : PosId} (h : s.Good .serving p 0) (hp : s.CalmAt p) : s.Inv where
  calm q := by
    by_cases hq : q = p
    · exact hq ▸ hp
    · exact h.others q hq
  agree := h.agree
  room := h.room
  sound := h.sound
  conserved := s.balance_zero_iff.mp h.balance

/-! ### Changes of the balance -/

theorem State.Balance.inHand {s : State} {k k' : Word32} (h : s.Balance k) (hk : k = k') : s.Balance k' := hk ▸ h

theorem State.Good.inHand {s : State} {p : PosId} {k k' : Word32} (h : s.Good ph p k) (hk : k = k') : s.Good ph p k' :=
  hk ▸ h

/-- Debts, torn units and totals move together. -/
theorem State.Balance.change {s t : State} {k : Word32} (h : s.Balance k) (c b w d d' : Word32)
    (hc : t.acct.totals.charged = s.acct.totals.charged + c) (hb : t.acct.totals.burned = s.acct.totals.burned + b)
    (hw : t.acct.totals.writtenOff = s.acct.totals.writtenOff + w)
    (hd : BitVec.ofNat 32 (t.debts + t.tornUnits) + d = BitVec.ofNat 32 (s.debts + s.tornUnits) + d') :
    t.Balance (k + c - b - w + d - d') := by
  unfold State.Balance at *
  rw [hc, hb, hw, h]
  grind

/-- Engines and positions keep naming each other where each operation keeps its engine, position and kind. -/
theorem State.OperationsAgree.of_same {s t : State} (h : s.OperationsAgree)
    (hp : ∀ q, (t.pos q).inFlight.map (fun f => (f.engine, f.op)) = (s.pos q).inFlight.map fun f => (f.engine, f.op))
    (he : ∀ e, (t.eng e).op.map (fun o => (o.position, o.op)) = (s.eng e).op.map fun o => (o.position, o.op))
    (hl : ∀ e, (s.eng e).op ≠ none → (t.eng e).lane = (s.eng e).lane) : t.OperationsAgree := by
  have hback (q : PosId) (f : InFlight) (hf : (t.pos q).inFlight = some f) :
      ∃ f', (s.pos q).inFlight = some f' ∧ f'.engine = f.engine ∧ f'.op = f.op := by
    have hq := hp q
    rw [hf, Option.map_some, eq_comm, Option.map_eq_some_iff] at hq
    obtain ⟨f', hf', heq⟩ := hq
    simp only [Prod.mk.injEq] at heq
    exact ⟨f', hf', heq⟩
  have hforth (q : PosId) (f : InFlight) (hf : (s.pos q).inFlight = some f) :
      ∃ f', (t.pos q).inFlight = some f' ∧ f'.engine = f.engine ∧ f'.op = f.op := by
    have hq := hp q
    rw [hf, Option.map_some, Option.map_eq_some_iff] at hq
    obtain ⟨f', hf', heq⟩ := hq
    simp only [Prod.mk.injEq] at heq
    exact ⟨f', hf', heq⟩
  constructor
  · intro e op hop
    have hq := he e
    rw [hop, Option.map_some, eq_comm, Option.map_eq_some_iff] at hq
    obtain ⟨op', hop', heq⟩ := hq
    simp only [Prod.mk.injEq] at heq
    obtain ⟨⟨f, hf, hfe, hfo⟩, hlane⟩ := h.1 e op' hop'
    obtain ⟨f', hf', hfe', hfo'⟩ := hforth _ f hf
    refine ⟨⟨f', heq.1 ▸ hf', hfe'.trans hfe, (hfo'.trans hfo).trans heq.2⟩, ?_⟩
    rw [hl e (by rw [hop']; exact nofun)]
    exact hlane
  · intro q f hf
    obtain ⟨f', hf', hfe, hfo⟩ := hback q f hf
    obtain ⟨op, hop, hpos, hk⟩ := h.2 q f' hf'
    have hq := he f'.engine
    rw [hop, Option.map_some, Option.map_eq_some_iff] at hq
    obtain ⟨op', hop', heq⟩ := hq
    simp only [Prod.mk.injEq] at heq
    exact ⟨op', hfe ▸ hop', heq.1.trans hpos, (heq.2.trans hk).trans hfo⟩

theorem State.OperationsAgree.of_inFlight {s t : State} (h : s.OperationsAgree)
    (hp : ∀ q, (t.pos q).inFlight = (s.pos q).inFlight) (he : t.engines = s.engines) : t.OperationsAgree :=
  h.of_same (fun q => by rw [hp q]) (fun e => by rw [State.eng_congr he]) (fun e _ => by rw [State.eng_congr he])

/-- A position calm in one state is calm in another that leaves it and lists as much. -/
theorem State.CalmAt.of_eq {s t : State} {q : PosId} (h : s.CalmAt q) (hp : t.pos q = s.pos q)
    (hl : s.listed (s.pos q) = true → t.listed (s.pos q) = true) : t.CalmAt q :=
  ⟨hp ▸ h.lawful, hp ▸ h.settled, fun hw => hp ▸ hl (h.listed (hp ▸ hw))⟩

/-- Positions of the same view are calm alike, where the tear list is as before. -/
theorem State.CalmAt.of_view {s t : State} {q : PosId} (h : s.CalmAt q) (hv : (t.pos q).view = (s.pos q).view)
    (ht : t.tear.entries = s.tear.entries) : t.CalmAt q := by
  refine ⟨h.lawful.of_view hv, h.settled.of_view hv, fun hw => ?_⟩
  simp only [Position.view, Prod.mk.injEq] at hv
  obtain ⟨h1, h2, -, -, -, -, -, h8, -⟩ := hv
  have hw' : (s.pos q).waiting = true := by
    unfold Position.waiting at *
    rwa [h1, h8] at hw
  have hl := h.listed hw'
  unfold State.listed Position.key State.tearEntry at *
  rw [h2, ht]
  exact hl

theorem Position.Rest.of_view {x y : Position} (h : x.Rest) (hv : y.view = x.view) : y.Rest := by
  simp only [Position.view, Prod.mk.injEq] at hv
  obtain ⟨-, h2, h3, h4, h5, h6, -, h8, h9, h10, -, -, -, h14, -, h16⟩ := hv
  refine ⟨h4.trans h.debt, h5.trans h.doubt, ?_, ?_, h8.trans h.reservation, h6.trans h.cardLost, ?_, ?_⟩
  · rw [← Option.isNone_iff_eq_none, ← Option.not_isSome, h14, h.call]; rfl
  · rw [← Option.isNone_iff_eq_none, ← Option.not_isSome, h16, h.recovery]; rfl
  · rw [h2, h3]; exact h.cardless
  · rw [h9, h10]; exact h.running

theorem State.Steady.of_eq {s t : State} {q : PosId} (h : s.Steady ph q) (hp : t.pos q = s.pos q)
    (hl : s.listed (s.pos q) = true → t.listed (s.pos q) = true) : t.Steady ph q := by
  cases ph with
  | serving => exact State.CalmAt.of_eq h hp hl
  | halting done => unfold State.Steady at *; rw [hp]; exact h

theorem State.Steady.of_view {s t : State} {q : PosId} (h : s.Steady ph q) (hv : (t.pos q).view = (s.pos q).view)
    (ht : t.tear.entries = s.tear.entries) : t.Steady ph q := by
  cases ph with
  | serving => exact State.CalmAt.of_view h hv ht
  | halting done =>
    refine ⟨h.1.imp (·.of_view hv) (·.of_view hv), fun hd => (h.2 ?_).of_view hv⟩
    simp only [Position.view, Prod.mk.injEq] at hv
    exact hv.1 ▸ hd

/-! ### Changes of the position of the event -/

/-- Anything that leaves the other positions, the operations, the tear list and the queue, its units told, with room
for the place the event's position takes. -/
theorem State.Good.changeWithin {s t : State} {p : PosId} {k : Word32} (h : s.Good ph p k)
    (hother : ∀ q, q ≠ p → t.pos q = s.pos q) (hflight : (t.pos p).inFlight = (s.pos p).inFlight)
    (heng : t.engines = s.engines) (htear : t.tear.entries = s.tear.entries)
    (hroom : t.queue.records.length + s.reservations + (t.pos p).places ≤ 64 + (s.pos p).places)
    (c b w : Word32) (hc : t.acct.totals.charged = s.acct.totals.charged + c)
    (hb : t.acct.totals.burned = s.acct.totals.burned + b)
    (hw : t.acct.totals.writtenOff = s.acct.totals.writtenOff + w) :
    t.Good ph p (k + c - b - w + BitVec.ofNat 32 (s.pos p).debt - BitVec.ofNat 32 (t.pos p).debt) where
  others q hq := (h.others q hq).of_eq (hother q hq) fun hl => by
    unfold State.listed State.tearEntry at *
    rwa [htear]
  agree := h.agree.of_inFlight (fun q => by
    by_cases hq : q = p
    · exact hq ▸ hflight
    · rw [hother q hq]) heng
  room := by
    have hsum := sum_pos_change (s := s) (t := t) (p := p) Position.places fun q hq => by rw [hother q hq]
    rw [State.reservations_eq_sum] at hroom ⊢
    omega
  sound := by
    unfold TearList.Sound
    rw [htear]
    exact h.sound
  balance := by
    refine h.balance.change c b w _ _ hc hb hw ?_
    have hsum := sum_pos_change (s := s) (t := t) (p := p) Position.debt fun q hq => by rw [hother q hq]
    have htorn : t.tornUnits = s.tornUnits := by unfold State.tornUnits; rw [htear]
    rw [← BitVec.ofNat_add, ← BitVec.ofNat_add, htorn, State.debts_eq_sum, State.debts_eq_sum]
    exact congrArg (BitVec.ofNat 32) (by omega)

/-- Anything that leaves the other positions, the operations, the tear list and the queue, its units told. -/
theorem State.Good.change {s t : State} {p : PosId} {k : Word32} (h : s.Good ph p k)
    (hother : ∀ q, q ≠ p → t.pos q = s.pos q) (hflight : (t.pos p).inFlight = (s.pos p).inFlight)
    (heng : t.engines = s.engines) (htear : t.tear.entries = s.tear.entries)
    (hroom : t.queue.records.length + (t.pos p).places ≤ s.queue.records.length + (s.pos p).places)
    (c b w : Word32) (hc : t.acct.totals.charged = s.acct.totals.charged + c)
    (hb : t.acct.totals.burned = s.acct.totals.burned + b)
    (hw : t.acct.totals.writtenOff = s.acct.totals.writtenOff + w) :
    t.Good ph p (k + c - b - w + BitVec.ofNat 32 (s.pos p).debt - BitVec.ofNat 32 (t.pos p).debt) :=
  h.changeWithin hother hflight heng htear (by have := h.room; omega) c b w hc hb hw

/-- Anything that leaves the positions, the operations, the tear list, the queue and the unit totals. -/
theorem State.Good.frame {s t : State} {p : PosId} {k : Word32} (h : s.Good ph p k) (hpos : t.positions = s.positions)
    (heng : t.engines = s.engines) (htear : t.tear.entries = s.tear.entries)
    (hqueue : t.queue.records.length ≤ s.queue.records.length)
    (hc : t.acct.totals.charged = s.acct.totals.charged) (hb : t.acct.totals.burned = s.acct.totals.burned)
    (hw : t.acct.totals.writtenOff = s.acct.totals.writtenOff) : t.Good ph p k := by
  have hp := State.pos_congr hpos
  have hg := h.change (fun q _ => hp q) (by rw [hp]) heng htear (by rw [hp]; omega) 0 0 0
    (by rw [hc, word_add_zero]) (by rw [hb, word_add_zero]) (by rw [hw, word_add_zero])
  rw [hp] at hg
  exact hg.inHand (by grind)

/-- A change of the event's own position that leaves its operation, its debt and its reservation. -/
theorem State.Good.modPos {s : State} {p : PosId} {k : Word32} (h : s.Good ph p k) {f : Position → Position}
    (hf : (f (s.pos p)).inFlight = (s.pos p).inFlight) (hd : (f (s.pos p)).debt = (s.pos p).debt)
    (hr : (f (s.pos p)).reservation = true → (s.pos p).reservation = true) : (s.modPos p f).Good ph p k := by
  have hg := h.change (t := s.modPos p f) (fun q hq => s.modPos_pos_ne hq f) (by simpa using hf) rfl rfl
    (by
      simp only [State.modPos_pos_self, State.modPos_queue, Position.places]
      have := hr
      split <;> simp_all) 0 0 0
    (word_add_zero _).symm (word_add_zero _).symm (word_add_zero _).symm
  rw [State.modPos_pos_self, hd] at hg
  exact hg.inHand (by grind)

/-- A position claims its reservation where there is room (R138). -/
theorem State.Good.claim {s : State} {p : PosId} {k : Word32} (h : s.Good ph p k) {f : Position → Position}
    (hf : (f (s.pos p)).inFlight = (s.pos p).inFlight) (hd : (f (s.pos p)).debt = (s.pos p).debt)
    (hroom : s.queue.records.length + s.reservations < 64) : (s.modPos p f).Good ph p k := by
  have hg := h.changeWithin (t := s.modPos p f) (fun q hq => s.modPos_pos_ne hq f) (by simpa using hf) rfl rfl
    (by
      have hone (x : Position) : x.places ≤ 1 := by unfold Position.places; split <;> omega
      have := hone ((s.modPos p f).pos p)
      rw [State.modPos_queue]
      omega) 0 0 0
    (word_add_zero _).symm (word_add_zero _).symm (word_add_zero _).symm
  rw [State.modPos_pos_self, hd] at hg
  exact hg.inHand (by grind)

/-- A charge is balanced by its report (R66). -/
theorem State.Good.charge {s : State} {p : PosId} {k : Word32} (h : s.Good ph p k) (n : Nat) : (s.charge p n).Good ph p k := by
  have hp : (s.charge p n).pos p = (s.pos p).charged n := by
    rw [State.charge_def, State.reportCharged_pos, State.modPos_pos_self]
  have hg := h.change (t := s.charge p n)
    (fun q hq => by rw [State.charge_def, State.reportCharged_pos, State.modPos_pos_ne _ hq]) (by rw [hp]; rfl) rfl rfl
    (by rw [hp]; exact Nat.le_refl _) (BitVec.ofNat 32 n) 0 0 rfl (word_add_zero _).symm (word_add_zero _).symm
  rw [hp] at hg
  have hd : ((s.pos p).charged n).debt = (s.pos p).debt + n := rfl
  rw [hd, BitVec.ofNat_add] at hg
  exact hg.inHand (by grind)

/-- A burned unit is taken from the debt (R74). -/
theorem State.Good.unitBurned {s : State} {p : PosId} {k : Word32} (h : s.Good ph p k) (hd : 1 ≤ (s.pos p).debt) :
    (s.unitBurned p).Good ph p k := by
  have hp : (s.unitBurned p).pos p = (s.pos p).unitBurned := by
    rw [State.unitBurned_def, State.reportBurned_pos, State.modPos_pos_self]
  have hrole := (s.pos p).unitBurned_role
  have hg := h.change (t := s.unitBurned p)
    (fun q hq => by rw [State.unitBurned_def, State.reportBurned_pos, State.modPos_pos_ne _ hq])
    (by rw [hp]; exact hrole.inFlight) rfl rfl (by rw [hp, Position.places, hrole.reservation]; exact Nat.le_refl _)
    0 (BitVec.ofNat 32 1) 0 (word_add_zero _).symm rfl (word_add_zero _).symm
  rw [hp] at hg
  have h1 : (s.pos p).debt = (s.pos p).unitBurned.debt + 1 := by
    have : (s.pos p).unitBurned.debt = (s.pos p).debt - 1 := rfl
    omega
  rw [h1, BitVec.ofNat_add] at hg
  exact hg.inHand (by grind)

/-- A debt lost is written off (R78). -/
theorem State.Good.debtLost {s : State} {p : PosId} {k : Word32} (h : s.Good ph p k) : (s.debtLost p).Good ph p k := by
  have hp : (s.debtLost p).pos p = (s.pos p).debtLost := by
    rw [State.debtLost, State.reportWrittenOff_pos, State.modPos_pos_self]
  have hrole := (s.pos p).debtLost_role
  have hg := h.change (t := s.debtLost p)
    (fun q hq => by rw [State.debtLost, State.reportWrittenOff_pos, State.modPos_pos_ne _ hq])
    (by rw [hp]; exact hrole.inFlight) rfl rfl (by rw [hp, Position.places, hrole.reservation]; exact Nat.le_refl _)
    0 0 (BitVec.ofNat 32 (s.pos p).debt) (word_add_zero _).symm (word_add_zero _).symm rfl
  rw [hp] at hg
  have hd : (s.pos p).debtLost.debt = 0 := rfl
  rw [hd, show BitVec.ofNat 32 0 = (0 : Word32) from rfl] at hg
  exact hg.inHand (by grind)

/-! ### Records -/

/-- A record is written into the reservation of its position (R140). -/
theorem State.Good.writeRecord {s : State} {p : PosId} {k : Word32} (h : s.Good ph p k) (r : Word16 → CallRecord)
    {f : Position → Position} (hf : (f (s.pos p)).inFlight = (s.pos p).inFlight)
    (hd : (f (s.pos p)).debt = (s.pos p).debt) (hr : (s.pos p).reservation = true)
    (hr' : (f (s.pos p)).reservation = false) : ((s.writeRecord r).modPos p f).Good ph p k := by
  have hp : ((s.writeRecord r).modPos p f).pos p = f (s.pos p) := State.modPos_pos_self _ p f
  have hg := h.change (t := (s.writeRecord r).modPos p f) (fun q hq => State.modPos_pos_ne _ hq f)
    (by rw [hp]; exact hf) rfl rfl
    (by
      rw [hp, Position.places, Position.places, hr, hr']
      simp [State.writeRecord]) 0 0 0
    (word_add_zero _).symm (word_add_zero _).symm (word_add_zero _).symm
  rw [hp, hd] at hg
  exact hg.inHand (by grind)

/-- The record of a call that holds its reservation. -/
theorem State.Good.closeCall {s : State} {p : PosId} {k : Word32} (h : s.Good ph p k) (hc : (s.pos p).call ≠ none)
    (hr : (s.pos p).reservation = true) :
    (s.closeCall p).Good ph p k ∧ (s.closeCall p).pos p = { s.pos p with call := none, reservation := false } := by
  obtain ⟨c, hc⟩ := Option.ne_none_iff_exists'.mp hc
  unfold State.closeCall
  simp only [hc]
  exact ⟨h.writeRecord _ rfl rfl hr rfl, State.modPos_pos_self ..⟩

/-- The record of a recovery that holds its reservation. -/
theorem State.Good.closeRecovery {s : State} {p : PosId} {k : Word32} (h : s.Good ph p k) (hc : (s.pos p).recovery ≠ none)
    (hr : (s.pos p).reservation = true) (why : EndCause) :
    (s.closeRecovery p why).Good ph p k ∧
      (s.closeRecovery p why).pos p = { s.pos p with recovery := none, reservation := false } := by
  obtain ⟨c, hc⟩ := Option.ne_none_iff_exists'.mp hc
  unfold State.closeRecovery
  simp only [hc]
  exact ⟨h.writeRecord _ rfl rfl hr rfl, State.modPos_pos_self ..⟩

/-! ### Changes that no law sees -/

/-- Changes of many positions that leave each steady, with its debt, its reservation and its operation. -/
theorem State.Good.of_steady {s t : State} {p : PosId} {k : Word32} (h : s.Good ph p k)
    (hs : ∀ q, q ≠ p → t.Steady ph q) (hdebt : ∀ q, (t.pos q).debt = (s.pos q).debt)
    (hplace : ∀ q, (t.pos q).reservation = (s.pos q).reservation)
    (hflight : ∀ q, (t.pos q).inFlight = (s.pos q).inFlight) (heng : t.engines = s.engines)
    (htear : t.tear.entries = s.tear.entries) (hqueue : t.queue.records.length ≤ s.queue.records.length)
    (hc : t.acct.totals.charged = s.acct.totals.charged) (hb : t.acct.totals.burned = s.acct.totals.burned)
    (hw : t.acct.totals.writtenOff = s.acct.totals.writtenOff) : t.Good ph p k := by
  have hdebts : t.debts = s.debts := by
    rw [State.debts_eq_sum, State.debts_eq_sum]
    exact positionSum_congr fun q => hdebt q
  have hres : t.reservations = s.reservations := by
    rw [State.reservations_eq_sum, State.reservations_eq_sum]
    refine positionSum_congr fun q => ?_
    unfold Position.places
    rw [hplace]
  refine ⟨hs, h.agree.of_inFlight hflight heng, ?_, ?_, ?_⟩
  · have := h.room
    omega
  · unfold TearList.Sound
    rw [htear]
    exact h.sound
  · have hbal := h.balance
    unfold State.Balance State.tornUnits at *
    rwa [hc, hb, hw, hdebts, htear]

/-- Positions of the same view, with the operations, the tear list, the queue and the unit totals as they were. -/
theorem State.Good.of_view {s t : State} {p : PosId} {k : Word32} (h : s.Good ph p k)
    (hv : ∀ q, (t.pos q).view = (s.pos q).view) (heng : t.engines = s.engines)
    (htear : t.tear.entries = s.tear.entries) (hqueue : t.queue.records.length ≤ s.queue.records.length)
    (hc : t.acct.totals.charged = s.acct.totals.charged) (hb : t.acct.totals.burned = s.acct.totals.burned)
    (hw : t.acct.totals.writtenOff = s.acct.totals.writtenOff) : t.Good ph p k := by
  have hv' := hv
  simp only [Position.view, Prod.mk.injEq] at hv'
  exact h.of_steady (fun q hq => (h.others q hq).of_view (hv q) htear) (fun q => (hv' q).2.2.2.1)
    (fun q => (hv' q).2.2.2.2.2.2.2.1) (fun q => (hv' q).2.2.2.2.2.2.2.2.1) heng htear hqueue hc hb hw

theorem State.Good.handNotices {s : State} {p : PosId} {k : Word32} (h : s.Good ph p k) (key : CardKey) :
    (s.handNotices key).Good ph p k := by
  unfold State.handNotices
  refine h.of_view (fun q => ?_) (s.mapPos_engines _) (by rw [State.mapPos_tear]) (Nat.le_of_eq (by rw [State.mapPos_queue]))
    (by rw [State.mapPos_acct]) (by rw [State.mapPos_acct]) (by rw [State.mapPos_acct])
  rw [State.mapPos_pos]
  split <;> rfl

/-! ### Entries removed and added -/

theorem Position.released_eq (k : CardKey) (x : Position) :
    x.released k = if x.waiting && x.key = some k then x.leaveWait else x := by
  unfold Position.released Position.waiting
  rw [Position.leaveWait_eq]
  by_cases h : x.state = .recovering ∧ x.reservation = false ∧ x.key = some k
  · simp [h]
  · rw [if_neg h, if_neg (by simpa [and_assoc] using h)]

theorem Position.waiting_iff (x : Position) : x.waiting = true ↔ x.state = .recovering ∧ x.reservation = false := by
  simp [Position.waiting]

/-- A waiting position is at rest. -/
theorem Position.Lawful.rest_of_waiting {x : Position} (h : x.Lawful) (hw : x.waiting = true) : x.Rest := by
  obtain ⟨hs, hr⟩ := x.waiting_iff.mp hw
  exact h.rest (by rw [hs]; exact id) fun _ => hr

/-- A released position has waited at rest, and arrives; any other is as it was (R126). -/
theorem Position.released_cases {x : Position} (h : x.waiting = true → x.Rest) (k : CardKey) :
    (x.released k = x ∧ (x.waiting = true → x.key ≠ some k)) ∨
      (x.waiting = true ∧ x.Rest ∧ x.Arrived (x.released k) ∧ (x.released k).derived = none) := by
  rw [Position.released_eq]
  split
  · next hw =>
    simp only [Bool.and_eq_true, decide_eq_true_eq] at hw
    have hrest := h hw.1
    have ha := hrest.leaveWait
    refine .inr ⟨hw.1, hrest, ha, ha.rest.derived ?_⟩
    unfold Position.leaveWait Position.arriveRefused Position.arriveReadyUnlisted
    split <;> split <;> exact nofun
  · next hw => exact .inl ⟨rfl, fun hwt hk => hw (by simp [hwt, hk])⟩

/-- A release leaves debts, places, operations and allocations. -/
theorem Position.released_fields {x : Position} (h : x.waiting = true → x.Rest) (k : CardKey) :
    (x.released k).debt = x.debt ∧ (x.released k).places = x.places ∧ (x.released k).inFlight = x.inFlight ∧
      (x.released k).pendingOp = x.pendingOp ∧ (x.released k).allocation = x.allocation := by
  rcases Position.released_cases h k with ⟨heq, -⟩ | ⟨-, hrest, ha, -⟩
  · rw [heq]
    exact ⟨rfl, rfl, rfl, rfl, rfl⟩
  · exact ⟨by rw [ha.rest.debt, hrest.debt], by rw [Position.places, Position.places, ha.rest.reservation,
      hrest.reservation], ha.inFlight, ha.pendingOp, ha.allocation⟩

theorem State.Steady.rest_of_waiting {s : State} {q : PosId} (h : s.Steady ph q) (hw : (s.pos q).waiting = true) :
    (s.pos q).Rest := by
  cases ph with
  | serving => exact (show s.CalmAt q from h).lawful.rest_of_waiting hw
  | halting done => exact h.1.elim (·.rest_of_waiting hw) id

/-- The units of the list are those of an entry and of the others (R116). -/
theorem tornUnits_remove {l : List TearEntry} (hn : (l.map (·.key)).Nodup) {k : CardKey} {e : TearEntry}
    (he : l.find? (fun t => t.key = k) = some e) :
    (l.map (·.total)).sum = ((l.filter fun t => t.key ≠ k).map (·.total)).sum + e.total := by
  induction l with
  | nil => simp at he
  | cons a l ih =>
    simp only [List.map_cons, List.nodup_cons] at hn
    by_cases ha : a.key = k
    · have hl : l.filter (fun t => t.key ≠ k) = l := by
        refine List.filter_eq_self.mpr fun t ht => ?_
        simp only [ne_eq, decide_not, Bool.not_eq_eq_eq_not, Bool.not_true, decide_eq_false_iff_not]
        exact fun hk => hn.1 (List.mem_map.mpr ⟨t, ht, hk.trans ha.symm⟩)
      simp only [List.find?_cons, ha, decide_true, Option.some.injEq] at he
      rw [List.filter_cons_of_neg (by simp [ha]), hl, List.map_cons, List.sum_cons, he, Nat.add_comm]
    · simp only [List.find?_cons, ha, decide_false] at he
      rw [List.filter_cons_of_pos (by simp [ha]), List.map_cons, List.map_cons, List.sum_cons, List.sum_cons,
        ih hn.2 he, Nat.add_assoc]

/-- Another card is listed as it was when a key has left the list. -/
theorem find_remove_ne {l : List TearEntry} {k k' : CardKey} (h : k' ≠ k) :
    (l.filter fun t => t.key ≠ k).find? (fun t => t.key = k') = l.find? fun t => t.key = k' := by
  rw [List.find?_filter]
  congr 1
  funext t
  by_cases ht : t.key = k'
  · simp [ht, h]
  · simp [ht]

/-- A listed card is known by its key. -/
theorem State.listed_iff (s : State) (x : Position) :
    s.listed x = true ↔ ∃ k, x.key = some k ∧ (s.tear.entries.find? fun t => t.key = k).isSome = true := by
  unfold State.listed State.tearEntry
  cases x.key with
  | none => simp
  | some k => simp

/-- A position stays steady when an entry leaves the list and its waiters are released (R126). -/
theorem State.Steady.released {s t : State} {q : PosId} (h : s.Steady ph q) {key : CardKey}
    (hp : t.pos q = (s.pos q).released key)
    (htear : t.tear.entries = s.tear.entries.filter fun x => x.key ≠ key) : t.Steady ph q := by
  have hcases := Position.released_cases h.rest_of_waiting key
  cases ph with
  | serving =>
    obtain ⟨hlaw, hset, hlist⟩ := h
    rcases hcases with ⟨heq, hne⟩ | ⟨hw, hrest, ha, hd⟩
    · refine ⟨by rw [hp, heq]; exact hlaw, by rw [hp, heq]; exact hset, fun hwt => ?_⟩
      rw [hp, heq] at hwt ⊢
      obtain ⟨k', hk', hf⟩ := (s.listed_iff _).mp (hlist hwt)
      refine (t.listed_iff _).mpr ⟨k', hk', ?_⟩
      rw [htear, find_remove_ne fun hk : k' = key => hne hwt (hk ▸ hk')]
      exact hf
    · have hst := (Position.waiting_iff _).mp hw
      refine ⟨by rw [hp]; exact ha.rest.lawful ha.uncalled, by
        rw [hp]
        refine ⟨by simp [ha.rest.cardLost], fun hf => ?_⟩
        rw [ha.pendingOp, hset.derived (ha.inFlight ▸ hf), hrest.derived (by simp [hst.1]), hd], fun hwt => ?_⟩
      rw [hp] at hwt
      exact absurd ((Position.waiting_iff _).mp hwt).1 ha.settled
  | halting done =>
    rcases hcases with ⟨heq, -⟩ | ⟨-, -, ha, -⟩
    · unfold State.Steady at *
      rw [hp, heq]
      exact h
    · unfold State.Steady
      rw [hp]
      exact ⟨.inr ha.rest, fun _ => ha.rest⟩

/-- An entry leaves the list, and the positions that waited for it are released (R126). -/
theorem State.Good.release {s t : State} {p : PosId} {k : Word32} (h : s.Good ph p k) {key : CardKey} {e : TearEntry}
    (he : s.tearEntry key = some e) (hother : ∀ q, q ≠ p → t.pos q = (s.pos q).released key)
    (hflight : (t.pos p).inFlight = (s.pos p).inFlight) (heng : t.engines = s.engines)
    (htear : t.tear.entries = s.tear.entries.filter fun x => x.key ≠ key)
    (hroom : t.queue.records.length + s.reservations + (t.pos p).places ≤ 64 + (s.pos p).places)
    (b w : Word32) (hc : t.acct.totals.charged = s.acct.totals.charged)
    (hb : t.acct.totals.burned = s.acct.totals.burned + b)
    (hw : t.acct.totals.writtenOff = s.acct.totals.writtenOff + w) :
    t.Good ph p (k - b - w + BitVec.ofNat 32 (s.pos p).debt - BitVec.ofNat 32 (t.pos p).debt +
      BitVec.ofNat 32 e.total) := by
  have hcalm (q : PosId) (hq : q ≠ p) := Position.released_fields (h.others q hq).rest_of_waiting key
  constructor
  case others => exact fun q hq => (h.others q hq).released (hother q hq) htear
  case agree =>
    refine h.agree.of_inFlight (fun q => ?_) heng
    by_cases hq : q = p
    · exact hq ▸ hflight
    · obtain ⟨-, -, hf, -⟩ := hcalm q hq
      rw [hother q hq, hf]
  case room =>
    have hsum := sum_pos_change (s := s) (t := t) (p := p) Position.places fun q hq => by
      obtain ⟨-, hpl, -⟩ := hcalm q hq
      rw [hother q hq, hpl]
    rw [State.reservations_eq_sum] at hroom ⊢
    omega
  case sound => exact h.sound.sublist (by rw [htear]; exact List.filter_sublist)
  case balance =>
    have hbal := h.balance.change (t := t) 0 b w
      (BitVec.ofNat 32 (s.pos p).debt + BitVec.ofNat 32 e.total) (BitVec.ofNat 32 (t.pos p).debt)
      (by rw [hc, word_add_zero]) hb hw ?_
    · exact hbal.inHand (by grind)
    · have hsum := sum_pos_change (s := s) (t := t) (p := p) Position.debt fun q hq => by
        obtain ⟨hd, -⟩ := hcalm q hq
        rw [hother q hq, hd]
      have htorn : s.tornUnits = t.tornUnits + e.total := by
        unfold State.tornUnits
        rw [htear]
        exact tornUnits_remove h.sound.2.1 he
      rw [← BitVec.ofNat_add, ← BitVec.ofNat_add, ← BitVec.ofNat_add, htorn, State.debts_eq_sum, State.debts_eq_sum]
      exact congrArg (BitVec.ofNat 32) (by omega)

/-- An entry comes to the list; nothing listed before is lost (R121, R122). -/
theorem State.Good.addEntry {s t : State} {p : PosId} {k : Word32} (h : s.Good ph p k) (hpos : t.positions = s.positions)
    (heng : t.engines = s.engines) (hqueue : t.queue = s.queue) (hsound : t.tear.Sound)
    (hlisted : ∀ key, (s.tearEntry key).isSome = true → (t.tearEntry key).isSome = true) (w : Word32) (n : Nat)
    (hc : t.acct.totals.charged = s.acct.totals.charged) (hb : t.acct.totals.burned = s.acct.totals.burned)
    (hw : t.acct.totals.writtenOff = s.acct.totals.writtenOff + w)
    (hn : BitVec.ofNat 32 t.tornUnits + w = BitVec.ofNat 32 (s.tornUnits + n)) :
    t.Good ph p (k - BitVec.ofNat 32 n) := by
  have hp := State.pos_congr hpos
  constructor
  case others =>
    refine fun q hq => (h.others q hq).of_eq (hp q) fun hl => ?_
    obtain ⟨key, hk, hf⟩ := (s.listed_iff _).mp hl
    exact (t.listed_iff _).mpr ⟨key, hk, hlisted key hf⟩
  case agree => exact h.agree.of_inFlight (fun q => by rw [hp]) heng
  case room =>
    rw [hqueue, State.reservations_eq_sum]
    simp only [hp]
    rw [← State.reservations_eq_sum]
    exact h.room
  case sound => exact hsound
  case balance =>
    have hdebts : t.debts = s.debts := by
      rw [State.debts_eq_sum, State.debts_eq_sum]
      exact positionSum_congr fun q => by rw [hp]
    have hbal := h.balance.change (t := t) 0 0 w w (BitVec.ofNat 32 n) (by rw [hc, word_add_zero]) (by rw [hb, word_add_zero]) hw ?_
    · exact hbal.inHand (by grind)
    · rw [hdebts, BitVec.ofNat_add, BitVec.ofNat_add]
      rw [BitVec.ofNat_add] at hn
      grind

theorem State.Good.appendEntry {s : State} {p : PosId} {k : Word32} (h : s.Good ph p k) {t : TearEntry} (ht : t.Sound)
    (hlen : s.tear.entries.length < 32) (hk : t.key ∉ s.tear.entries.map (·.key)) :
    (s.appendEntry t).Good ph p (k - BitVec.ofNat 32 t.total) := by
  have hsound : (s.appendEntry t).tear.Sound := h.sound.append rfl hlen hk ht.1 ht.2
  refine h.addEntry (t := s.appendEntry t) rfl rfl rfl hsound (fun key hs => ?_) 0 _ rfl rfl (word_add_zero _).symm ?_
  · unfold State.tearEntry at hs ⊢
    change (List.find? _ (s.tear.entries ++ [t])).isSome = true
    rw [List.find?_append, Option.isSome_or, hs, Bool.true_or]
  · have : (s.appendEntry t).tornUnits = s.tornUnits + t.total := by
      unfold State.tornUnits
      change ((s.tear.entries ++ [t]).map (·.total)).sum = _
      simp
    rw [this, word_add_zero]

/-- An entry cut to the units it may owe (R122). -/
def TearEntry.capped (m : TearEntry) : TearEntry := { m with owed := min Config.tearOwedMax m.owed }

/-- What a merge keeps of the units: those of both, less the ones above 8 (R122). -/
theorem TearEntry.merge_total (old new : TearEntry) :
    (old.merge new).capped.total +
      ((old.merge new).owed - Config.tearOwedMax) = old.total + new.total := by
  obtain ⟨_, _, a, da, _, _⟩ := old
  obtain ⟨_, _, b, db, _, _⟩ := new
  cases da with
  | none => simp [TearEntry.total, TearEntry.capped, TearEntry.merge]; omega
  | some x => cases db with
    | none => simp [TearEntry.total, TearEntry.capped, TearEntry.merge]; omega
    | some y => simp [TearEntry.total, TearEntry.capped, TearEntry.merge]; omega

theorem State.Good.mergeEntry {s : State} {p : PosId} {k : Word32} (h : s.Good ph p k) {old new : TearEntry}
    (hn : new.Sound) (ho : s.tearEntry new.key = some old) :
    (s.mergeEntry old new).Good ph p (k - BitVec.ofNat 32 new.total) := by
  have hk : old.key = new.key := State.tearEntry_key ho
  have hlen := hk ▸ TearList.remove_length_lt (State.tearEntry_mem ho) h.sound.1
  have hms := TearEntry.merge_sound (old := old) hn
  have hsound : (s.mergeEntry old new).tear.Sound :=
    (h.sound.remove new.key).append rfl hlen (TearList.not_mem_remove _ _) hms.1 hms.2
  refine h.addEntry (t := s.mergeEntry old new) rfl rfl rfl hsound (fun key hs => ?_)
    (BitVec.ofNat 32 ((old.merge new).owed - Config.tearOwedMax)) _ rfl rfl rfl ?_
  · unfold State.tearEntry at hs ⊢
    change (List.find? _ ((s.tear.entries.filter fun t => t.key ≠ new.key) ++ [_])).isSome = true
    rw [List.find?_append, Option.isSome_or]
    by_cases hkey : key = new.key
    · subst hkey
      simp [TearEntry.merge]
    · rw [find_remove_ne hkey, hs, Bool.true_or]
  · have hsum := tornUnits_remove h.sound.2.1 ho
    have hm := TearEntry.merge_total old new
    rw [← BitVec.ofNat_add]
    refine congrArg (BitVec.ofNat 32) ?_
    unfold State.tornUnits
    change (((s.tear.entries.filter fun t => t.key ≠ new.key) ++ [(old.merge new).capped]).map fun t => t.total).sum + _ =
      _
    rw [List.map_append, List.sum_append, List.map_singleton, List.sum_singleton]
    omega

/-- In a sound list the oldest entry is the one its key finds, and the others are those of another key. -/
theorem TearList.Sound.oldest {l : TearList} (h : l.Sound) {t : TearEntry} {rest : List TearEntry}
    (hl : l.entries = t :: rest) :
    (l.entries.find? fun x => x.key = t.key) = some t ∧ (l.entries.filter fun x => x.key ≠ t.key) = rest := by
  have hn := h.2.1
  rw [hl, List.map_cons, List.nodup_cons] at hn
  rw [hl]
  refine ⟨by simp, ?_⟩
  rw [List.filter_cons_of_neg (by simp)]
  refine List.filter_eq_self.mpr fun x hx => ?_
  simp only [ne_eq, decide_not, Bool.not_eq_eq_eq_not, Bool.not_true, decide_eq_false_iff_not]
  exact fun hk => hn.1 (List.mem_map.mpr ⟨x, hx, hk⟩)

theorem State.evict_pos (s : State) (t : TearEntry) (q : PosId) : (s.evict t).pos q = (s.pos q).released t.key := by
  unfold State.evict
  rw [State.releaseWaiters_eq, State.mapPos_pos]
  rfl

theorem State.Good.evict {s : State} {p : PosId} {k : Word32} (h : s.Good ph p k) {t : TearEntry} {rest : List TearEntry}
    (hl : s.tear.entries = t :: rest) (hp : (s.pos p).waiting = false) : (s.evict t).Good ph p k := by
  obtain ⟨hfind, hfilter⟩ := h.sound.oldest hl
  have hpos : (s.evict t).pos p = s.pos p := by rw [State.evict_pos, Position.released_eq, hp]; simp
  have hq : (s.evict t).queue = s.queue := by unfold State.evict State.releaseWaiters; rw [State.mapPos_queue]; rfl
  have ha : (s.evict t).acct.totals = { s.acct.totals with writtenOff := advance s.acct.totals.writtenOff t.total } := by
    unfold State.evict State.releaseWaiters
    rw [State.mapPos_acct]
    rfl
  have hg := h.release (t := s.evict t) hfind (fun q _ => s.evict_pos t q) (by rw [hpos])
    (by unfold State.evict State.releaseWaiters; rw [State.mapPos_engines]; rfl)
    (by rw [State.evict_entries, hfilter, hl]; rfl) (by rw [hpos, hq]; have := h.room; omega)
    0 (BitVec.ofNat 32 t.total) (by rw [ha]) (by rw [ha, word_add_zero]) (by rw [ha]; rfl)
  rw [hpos] at hg
  exact hg.inHand (by grind)

/-- A creation request puts its units to the list (R121 to R124). -/
theorem State.Good.createEntry {s : State} {p : PosId} {k : Word32} (h : s.Good ph p k) {t : TearEntry} (ht : t.Sound)
    (hp : (s.pos p).waiting = false) : (s.createEntry t).Good ph p (k - BitVec.ofNat 32 t.total) := by
  refine State.Good.handNotices ?_ t.key
  split
  · next old ho => exact h.mergeEntry ht ho
  · next hn =>
    have hk := (s.tearEntry_eq_none_iff t.key).mp hn
    split
    · next oldest rest he =>
      split
      · next hlt => exact h.appendEntry ht hlt hk
      · refine (h.evict he hp).appendEntry ht ?_ ?_
        · have hl32 := h.sound.1
          rw [he] at hl32
          rw [State.evict_entries, he]
          exact Nat.lt_of_succ_le hl32
        · rw [State.evict_entries, List.map_tail]
          exact fun hm => hk (List.mem_of_mem_tail hm)
    · next he => exact h.appendEntry ht (by simp [he]) hk

/-- A creation request leaves a position that neither waits nor stands in READY. -/
theorem State.createEntry_pos {s : State} {p : PosId} (t : TearEntry) (hw : (s.pos p).waiting = false)
    (hr : (s.pos p).state ≠ .ready) : (s.createEntry t).pos p = s.pos p := by
  have hnote (u : State) (hu : u.pos p = s.pos p) : (u.handNotices t.key).pos p = s.pos p := by
    unfold State.handNotices
    rw [State.mapPos_pos, hu]
    simp [hr]
  refine hnote _ ?_
  split
  · rfl
  · split
    · split
      · rfl
      · change (s.evict _).pos p = _
        rw [State.evict_pos, Position.released_eq, hw]
        simp
    · rfl

end

end Sys2Proof.Machine
end

section
/-!
PROOFS. The passing of debt, hand-overs, arrivals and the end of an event, followed through `State.Good`.
`t.Placed p x` says what such an operation makes of its own position, which was x: lawful, no card lost, listed where it
waits, its operation in flight as before.
-/

namespace Sys2Proof.Machine

section
variable {ph : Phase}

/-! ### The passing of debt -/

/-- A position whose debt has been passed (R117). -/
def Position.passed (x : Position) : Position :=
  if x.identity = none ∨ (x.debt = 0 ∧ x.doubt = none) then { x with cardLost := false }
  else
    let d := if x.doubt.isSome then 1 else 0
    { (x.mapUnits fun u => { u with owedOut := u.owedOut + (x.debt - d), doubtOut := u.doubtOut + d }) with
      debt := 0, doubt := none, cardLost := false }

/-- A lawful position that owes is neither waiting nor in READY. -/
theorem Position.Lawful.of_owing {x : Position} (h : x.Lawful) (hd : x.debt ≠ 0) :
    x.waiting = false ∧ x.state ≠ .ready ∧ x.identity ≠ none := by
  refine ⟨?_, ?_, fun hi => ?_⟩
  · rw [Bool.eq_false_iff, Ne, Position.waiting_iff]
    rintro ⟨hs, hr⟩
    rcases h.owing hd with ho | ⟨-, ho⟩
    · simp [hs] at ho
    · rw [h.reserved.mpr (.inr ⟨hs, ho⟩)] at hr
      cases hr
  · rcases h.owing hd with ho | ⟨ho, -⟩
    · rintro hs
      simp [hs] at ho
    · simp [ho]
  · have := h.cardless hi
    have := h.covered
    omega

theorem Position.Lawful.doubt_none {x : Position} (h : x.Lawful) (hd : x.debt = 0) : x.doubt = none := by
  refine Classical.byContradiction fun hne => ?_
  have := h.doubted hne
  omega

theorem Position.passed_role (x : Position) : x.SameRole x.passed := by
  unfold Position.passed
  split
  · exact ⟨rfl, rfl, rfl, rfl, rfl, rfl, rfl, rfl⟩
  · exact .trans (.of_view (x.mapUnits_view _)) ⟨rfl, rfl, rfl, rfl, rfl, rfl, rfl, rfl⟩

/-- Nothing is owed when the debt has been passed. -/
theorem Position.Lawful.passed_fields {x : Position} (h : x.Lawful) :
    x.passed.debt = 0 ∧ x.passed.doubt = none ∧ x.passed.cardLost = false ∧ x.passed.remaining = x.remaining ∧
      x.passed.pendingOp = x.pendingOp := by
  unfold Position.passed
  split
  · next hn =>
    have hd : x.debt = 0 := by
      rcases hn with hi | ⟨hd, -⟩
      · refine Classical.byContradiction fun hne => ?_
        exact (h.of_owing hne).2.2 hi
      · exact hd
    exact ⟨hd, h.doubt_none hd, rfl, rfl, rfl⟩
  · have hv := x.mapUnits_view fun u =>
      { u with owedOut := u.owedOut + (x.debt - if x.doubt.isSome then 1 else 0)
               doubtOut := u.doubtOut + if x.doubt.isSome then 1 else 0 }
    simp only [Position.view, Prod.mk.injEq] at hv
    obtain ⟨-, -, h3, -, -, -, -, -, -, h10, -⟩ := hv
    exact ⟨rfl, rfl, rfl, h3, h10⟩

/-- Passing puts the debt of a position to the tear list and leaves nothing owed (R117). -/
theorem State.Good.passDebt {s : State} {p : PosId} {k : Word32} (h : s.Good ph p k) (hx : (s.pos p).Lawful) :
    (s.passDebt p).Good ph p k ∧ (s.passDebt p).pos p = (s.pos p).passed := by
  have hclear (hn : (s.pos p).identity = none ∨ ((s.pos p).debt = 0 ∧ (s.pos p).doubt = none)) :
      (s.modPos p fun y => { y with cardLost := false }).Good ph p k ∧
        (s.modPos p fun y => { y with cardLost := false }).pos p = (s.pos p).passed := by
    refine ⟨h.modPos rfl rfl id, ?_⟩
    rw [State.modPos_pos_self, Position.passed, if_pos hn]
  unfold State.passDebt
  dsimp only
  cases hi : (s.pos p).identity with
  | none => exact hclear (.inl hi)
  | some id =>
    dsimp only
    split
    · next hn =>
      refine hclear (.inr ?_)
      simpa using hn
    · next hn =>
      have howes : (s.pos p).debt ≠ 0 := fun hd => hn (by simp [hd, hx.doubt_none hd])
      obtain ⟨hw, hr, -⟩ := hx.of_owing howes
      have hrole := (s.pos p).passed_role
      have hpass : (s.pos p).passed = _ := if_neg (by simp [hi, howes])
      obtain ⟨hpd, -⟩ := hx.passed_fields
      have hu : (s.modPos p fun _ => (s.pos p).passed).Good ph p (k + BitVec.ofNat 32 (s.pos p).debt) := by
        have hg := h.change (t := s.modPos p fun _ => (s.pos p).passed) (fun q hq => s.modPos_pos_ne hq _)
          (by rw [State.modPos_pos_self]; exact hrole.inFlight) rfl rfl
          (by rw [State.modPos_pos_self, Position.places, hrole.reservation]; exact Nat.le_refl _) 0 0 0
          (word_add_zero _).symm (word_add_zero _).symm (word_add_zero _).symm
        rw [State.modPos_pos_self, hpd] at hg
        rw [show BitVec.ofNat 32 0 = (0 : Word32) from rfl] at hg
        exact hg.inHand (by grind)
      have hmod : (s.modPos p fun y =>
          { (y.mapUnits fun u =>
              { u with owedOut := u.owedOut + ((s.pos p).debt - if (s.pos p).doubt.isSome then 1 else 0)
                       doubtOut := u.doubtOut + if (s.pos p).doubt.isSome then 1 else 0 }) with
            debt := 0, doubt := none, cardLost := false }) = s.modPos p fun _ => (s.pos p).passed :=
        State.modPos_congr hpass.symm
      rw [hmod]
      have hw' : ((s.modPos p fun _ => (s.pos p).passed).pos p).waiting = false := by
        rw [State.modPos_pos_self, Position.waiting, hrole.state, hrole.reservation]
        exact hw
      have hceil := hx.ceiling
      constructor
      · have hc := hu.createEntry (t := TearEntry.mk id.key id.face
            ((s.pos p).debt - if (s.pos p).doubt.isSome then 1 else 0) (s.pos p).doubt p s.link.stamp)
          ⟨by dsimp only; omega, by
            cases hd : (s.pos p).doubt with
            | none => left; simp; omega
            | some b => right; simp⟩ hw'
        have htot : (TearEntry.mk id.key id.face ((s.pos p).debt - if (s.pos p).doubt.isSome then 1 else 0)
            (s.pos p).doubt p s.link.stamp).total = (s.pos p).debt := by
          simp only [TearEntry.total]
          split <;> omega
        rw [htot] at hc
        exact hc.inHand (by grind)
      · rw [State.createEntry_pos _ hw' (by rw [State.modPos_pos_self, hrole.state]; exact hr), State.modPos_pos_self]

/-! ### What an arrival makes of the position -/

/-- A position an operation has put somewhere: lawful, no card lost, listed where it waits. -/
structure State.Placed (t : State) (p : PosId) (x : Position) : Prop where
  lawful : (t.pos p).Lawful
  lost : (t.pos p).cardLost = false
  listed : (t.pos p).waiting = true → t.listed (t.pos p) = true
  inFlight : (t.pos p).inFlight = x.inFlight

/-- An arrival places its position. -/
theorem Position.Arrived.placed {t : State} {p : PosId} {x : Position} (h : x.Arrived (t.pos p)) : t.Placed p x where
  lawful := h.rest.lawful h.uncalled
  lost := h.rest.cardLost
  listed hw := absurd (Position.waiting_iff _ |>.mp hw).1 h.settled
  inFlight := h.inFlight

/-- An arrival of a position at rest. -/
theorem State.Good.arrive {s : State} {p : PosId} {k : Word32} (h : s.Good ph p k) {f : Position → Position}
    (hx : (s.pos p).Rest) (hf : (s.pos p).Arrived (f (s.pos p))) :
    (s.modPos p f).Good ph p k ∧ (s.modPos p f).Placed p (s.pos p) := by
  refine ⟨h.modPos hf.inFlight (hf.rest.debt.trans hx.debt.symm) fun hr => ?_, ?_⟩
  · rw [hf.rest.reservation] at hr
    cases hr
  · refine Position.Arrived.placed ?_
    rw [State.modPos_pos_self]
    exact hf

/-! ### Hand-overs -/

theorem State.settleHandOver_good {s : State} {p : PosId} {k : Word32} (h : s.Good ph p k) (hx : s.Placed p (s.pos p)) :
    (s.settleHandOver p).Good ph p k ∧ (s.settleHandOver p).Placed p (s.pos p) := by
  unfold State.settleHandOver
  dsimp only
  split
  · next hd =>
    simp only [Position.recoveryDone, Bool.and_eq_true, decide_eq_true_eq, Option.isSome_iff_ne_none,
      Option.isNone_iff_eq_none] at hd
    obtain ⟨⟨⟨⟨⟨⟨hst, hrec⟩, hdebt⟩, -⟩, -⟩, -⟩, -⟩ := hd
    obtain ⟨hg, hp⟩ := h.closeRecovery hrec (hx.lawful.reserved.mpr (.inr ⟨hst, hrec⟩)) (s.pos p).recoveryCause
    have hcall : (s.pos p).call = none := by
      refine Classical.byContradiction fun hne => ?_
      have := hx.lawful.context.1.mp hne
      simp [hst] at this
    have hrest : ((s.closeRecovery p (s.pos p).recoveryCause).pos p).Rest := by
      rw [hp]
      exact hx.lawful.closed hdebt hx.lost rfl rfl hcall rfl rfl rfl rfl rfl rfl rfl
    have ha := hg.arrive hrest hrest.leaveWait
    rw [hp] at ha
    exact ⟨ha.1, ha.2.lawful, ha.2.lost, ha.2.listed, ha.2.inFlight⟩
  · exact ⟨h, hx⟩

/-- The units of an entry, as its hand-over divides them (R127, R128). -/
theorem handOver_units (t : TearEntry) (r : Nat) :
    handOverBurned t.inDoubt r + (handOverOwed t r - handOverDebt t r + handOverLost t.inDoubt r) + handOverDebt t r =
      t.total := by
  have hle : handOverDebt t r ≤ handOverOwed t r := Nat.min_le_left _ _
  have hsplit : handOverBurned t.inDoubt r + handOverOwed t r + handOverLost t.inDoubt r = t.total := by
    obtain ⟨_, _, a, d, _, _⟩ := t
    cases d with
    | none => simp [handOverBurned, handOverOwed, handOverLost, TearEntry.total]
    | some b =>
      simp only [handOverBurned, handOverOwed, handOverLost, TearEntry.total, Option.some.injEq]
      split <;> split <;> split <;> simp <;> omega
  omega

/-- The same units as they move the live totals. -/
theorem handOver_units_word (t : TearEntry) (r : Nat) :
    BitVec.ofNat 32 t.total =
      BitVec.ofNat 32 (handOverBurned t.inDoubt r) +
        BitVec.ofNat 32 (handOverOwed t r - handOverDebt t r + handOverLost t.inDoubt r) +
        BitVec.ofNat 32 (handOverDebt t r) := by
  rw [← BitVec.ofNat_add (handOverBurned t.inDoubt r), ← BitVec.ofNat_add, handOver_units]

/-- A listed position at rest in RECOVERING claims its place and takes its entry (R125 to R128). -/
theorem State.Good.admitRecovery {s : State} {p : PosId} {k : Word32} (h : s.Good ph p k) (hx : (s.pos p).Rest)
    (hs : (s.pos p).state = .recovering) (hroom : s.queue.records.length + s.reservations < 64)
    (hl : s.listed (s.pos p) = true) :
    (s.admitRecovery p).Good ph p k ∧ (s.admitRecovery p).Placed p (s.pos p) := by
  obtain ⟨key, hk, hf⟩ := (s.listed_iff _).mp hl
  obtain ⟨t, ht⟩ := Option.isSome_iff_exists.mp hf
  have hkt : t.key = key := State.tearEntry_key ht
  subst hkt
  let c := s.modPos p fun x => { x with reservation := true }
  have hcp : c.pos p = { s.pos p with reservation := true } := State.modPos_pos_self ..
  have heq : s.admitRecovery p = (c.handing p t).settleHandOver p := by
    refine State.handOver_eq_handing (k := t.key) ?_ ht ?_
    · change (c.pos p).key = _
      rw [hcp]
      exact hk
    · change (c.pos p).reservation = true
      rw [hcp]
  have hpos : (c.handing p t).pos p = Position.takeOver t s.link.stamp { s.pos p with reservation := true } := by
    rw [State.handing_pos, if_pos rfl, hcp, Position.takeOver_eq]
    rfl
  have hacct := State.handing_acct c p t
  rw [hcp] at hacct
  have hg : (c.handing p t).Good ph p k := by
    have hr := h.release (t := c.handing p t) ht
      (fun q hq => by rw [State.handing_pos, if_neg hq, State.modPos_pos_ne _ hq]) (by rw [hpos]; rfl)
      (by unfold State.handing; simp only [State.mapPos_engines]; rfl) (by unfold State.handing; rfl)
      (by
        have hq : (c.handing p t).queue = s.queue := by unfold State.handing; simp only [State.mapPos_queue]; rfl
        rw [hpos, hq]
        simp only [Position.places, Position.takeOver, hx.reservation]
        simp only [if_true, Bool.false_eq_true, if_false]
        omega)
      (BitVec.ofNat 32 (handOverBurned t.inDoubt (s.pos p).remaining))
      (BitVec.ofNat 32 (handOverOwed t (s.pos p).remaining - handOverDebt t (s.pos p).remaining +
        handOverLost t.inDoubt (s.pos p).remaining))
      (by rw [hacct]; rfl) (by rw [hacct]; rfl) (by rw [hacct]; rfl)
    rw [hpos, hx.debt] at hr
    have hd : (Position.takeOver t s.link.stamp { s.pos p with reservation := true }).debt =
        handOverDebt t (s.pos p).remaining := rfl
    rw [hd, handOver_units_word t (s.pos p).remaining, show BitVec.ofNat 32 0 = (0 : Word32) from rfl] at hr
    exact hr.inHand (by grind)
  have hlaw := Position.takeOver_lawful hx hs t s.link.stamp
  have hplaced : (c.handing p t).Placed p ((c.handing p t).pos p) := by
    refine ⟨by rw [hpos]; exact hlaw, by rw [hpos]; exact hx.cardLost, fun hw => ?_, rfl⟩
    rw [hpos, Position.waiting_iff] at hw
    cases hw.2
  have hfin := State.settleHandOver_good hg hplaced
  rw [heq]
  refine ⟨hfin.1, hfin.2.lawful, hfin.2.lost, hfin.2.listed, ?_⟩
  rw [hfin.2.inFlight, hpos]
  rfl

theorem State.admits_iff (s : State) : s.admits = true ↔ s.queue.records.length + s.reservations < 64 :=
  decide_eq_true_iff

/-- A listed position at rest enters RECOVERING (R125). -/
theorem State.Good.enterRecovering {s : State} {p : PosId} {k : Word32} (h : s.Good ph p k) (hx : (s.pos p).Rest)
    (hl : s.listed (s.pos p) = true) :
    (s.enterRecovering p).Good ph p k ∧ (s.enterRecovering p).Placed p (s.pos p) := by
  let c := s.modPos p (·.enter .recovering)
  have hcp : c.pos p = (s.pos p).enter .recovering := State.modPos_pos_self ..
  have hcg : c.Good ph p k := h.modPos rfl rfl id
  have hrest : (c.pos p).Rest := hcp ▸ hx.enter .recovering
  have hcl : c.listed (c.pos p) = true := by rw [hcp]; exact hl
  have hst : (c.pos p).state = .recovering := by rw [hcp]; rfl
  change (if c.admits then c.admitRecovery p else c).Good ph p k ∧ (if c.admits then c.admitRecovery p else c).Placed p _
  split
  · next ha =>
    have hfin := hcg.admitRecovery hrest hst (c.admits_iff.mp ha) hcl
    refine ⟨hfin.1, hfin.2.lawful, hfin.2.lost, hfin.2.listed, ?_⟩
    rw [hfin.2.inFlight, hcp]
    rfl
  · refine ⟨hcg, hrest.lawful (by rw [hst]; exact id), hrest.cardLost, fun _ => hcl, by rw [hcp]; rfl⟩

/-- A position at rest arrives in READY (R21, R124). -/
theorem State.Good.arriveReady {s : State} {p : PosId} {k : Word32} (h : s.Good ph p k) (hx : (s.pos p).Rest) :
    (s.arriveReady p).Good ph p k ∧ (s.arriveReady p).Placed p (s.pos p) := by
  unfold State.arriveReady
  dsimp only
  split
  · exact h.arrive hx hx.arriveBlocked
  · split
    · next hl => exact h.enterRecovering hx hl
    · exact h.arrive hx ⟨hx.enter .ready, id, nofun, rfl, rfl, rfl, rfl⟩

/-! ### The ends of recoveries and calls -/

/-- A recovery that has taken its entry, closed: what it leaves is at rest (R37, R140). -/
theorem State.Good.closeRecovery_rest {s : State} {p : PosId} {k : Word32} (h : s.Good ph p k) (hx : (s.pos p).Lawful)
    (hrec : (s.pos p).recovery ≠ none) (hd : (s.pos p).debt = 0) (hl : (s.pos p).cardLost = false) (why : EndCause) :
    (s.closeRecovery p why).Good ph p k ∧ ((s.closeRecovery p why).pos p).Rest ∧
      (s.closeRecovery p why).pos p = { s.pos p with recovery := none, reservation := false } := by
  have hst := hx.context.2 hrec
  have hcall : (s.pos p).call = none := by
    refine Classical.byContradiction fun hne => ?_
    have := hx.context.1.mp hne
    simp [hst] at this
  obtain ⟨hg, hp⟩ := h.closeRecovery hrec (hx.reserved.mpr (.inr ⟨hst, hrec⟩)) why
  refine ⟨hg, ?_, hp⟩
  rw [hp]
  exact hx.closed hd hl rfl rfl hcall rfl rfl rfl rfl rfl rfl rfl

/-- A call in a state of calls, closed: what it leaves is at rest (R36, R140). -/
theorem State.Good.closeCall_rest {s : State} {p : PosId} {k : Word32} (h : s.Good ph p k) (hx : (s.pos p).Lawful)
    (hs : (s.pos p).state.called) (hd : (s.pos p).debt = 0) (hl : (s.pos p).cardLost = false) :
    (s.closeCall p).Good ph p k ∧ ((s.closeCall p).pos p).Rest ∧
      (s.closeCall p).pos p = { s.pos p with call := none, reservation := false } := by
  have hs' := (s.pos p).state.called_iff.mp hs
  have hrec : (s.pos p).recovery = none := by
    refine Classical.byContradiction fun hne => ?_
    rw [hx.context.2 hne] at hs
    exact hs
  obtain ⟨hg, hp⟩ := h.closeCall (hx.context.1.mpr hs') (hx.reserved.mpr (.inl hs'))
  refine ⟨hg, ?_, hp⟩
  rw [hp]
  exact hx.closed hd hl rfl rfl rfl hrec rfl rfl rfl rfl rfl rfl

/-- The placing is told against the position before the closing. -/
theorem State.Placed.of_inFlight {t : State} {p : PosId} {x y : Position} (h : t.Placed p y)
    (hf : y.inFlight = x.inFlight) : t.Placed p x := ⟨h.lawful, h.lost, h.listed, h.inFlight.trans hf⟩

theorem State.Good.finishRecovery {s : State} {p : PosId} {k : Word32} (h : s.Good ph p k) (hx : (s.pos p).Lawful)
    (hrec : (s.pos p).recovery ≠ none) (hd : (s.pos p).debt = 0) (hl : (s.pos p).cardLost = false) :
    (s.finishRecovery p).Good ph p k ∧ (s.finishRecovery p).Placed p (s.pos p) := by
  obtain ⟨hg, hrest, hp⟩ := h.closeRecovery_rest hx hrec hd hl (s.pos p).recoveryCause
  have hf : ((s.closeRecovery p (s.pos p).recoveryCause).pos p).inFlight = (s.pos p).inFlight := by rw [hp]
  unfold State.finishRecovery
  dsimp only
  split
  · obtain ⟨h1, h2⟩ := hg.arrive hrest (hrest.arriveRefused .empty)
    exact ⟨h1, h2.of_inFlight hf⟩
  · obtain ⟨h1, h2⟩ := hg.arriveReady hrest
    exact ⟨h1, h2.of_inFlight hf⟩

theorem State.Good.loseRecovery {s : State} {p : PosId} {k : Word32} (h : s.Good ph p k) (hx : (s.pos p).Lawful)
    (hrec : (s.pos p).recovery ≠ none) (hf : (s.pos p).inFlight = none) :
    (s.loseRecovery p).Good ph p k ∧ (s.loseRecovery p).Placed p (s.pos p) := by
  obtain ⟨hg, hp⟩ := h.passDebt hx
  have hrole := (s.pos p).passed_role
  obtain ⟨hd, hdo, hl, hrem, hpend⟩ := hx.passed_fields
  have hlaw : ((s.passDebt p).pos p).Lawful := by
    rw [hp]
    exact hx.of_cleared hrole (fun f hff => by rw [hf] at hff; cases hff) hpend hd hdo hl hrem
  have hrec' : ((s.passDebt p).pos p).recovery ≠ none := by
    rw [hp, ← Option.isSome_iff_ne_none, hrole.recovery, Option.isSome_iff_ne_none]
    exact hrec
  obtain ⟨hg2, hrest, hp2⟩ := hg.closeRecovery_rest hlaw hrec' (by rw [hp]; exact hd) (by rw [hp]; exact hl)
    .cardWithdrawn
  obtain ⟨h1, h2⟩ := hg2.arrive hrest hrest.arriveVacant
  refine ⟨h1, h2.of_inFlight ?_⟩
  rw [hp2, hp]
  exact hrole.inFlight

theorem State.Good.finishClearing {s : State} {p : PosId} {k : Word32} (h : s.Good ph p k) (hx : (s.pos p).Lawful)
    (hs : (s.pos p).state = .clearing) (hd : (s.pos p).debt = 0) (hl : (s.pos p).cardLost = false) :
    (s.finishClearing p).Good ph p k ∧ (s.finishClearing p).Placed p (s.pos p) := by
  obtain ⟨hg, hrest, hp⟩ := h.closeCall_rest hx (by rw [hs]; trivial) hd hl
  have hf : ((s.closeCall p).pos p).inFlight = (s.pos p).inFlight := by rw [hp]
  have hkey : (s.closeCall p).listed ((s.closeCall p).pos p) = (s.closeCall p).listed (s.pos p) := by rw [hp]; rfl
  have harrive {f : Position → Position} (ha : ((s.closeCall p).pos p).Arrived (f ((s.closeCall p).pos p))) :
      ((s.closeCall p).modPos p f).Good ph p k ∧ ((s.closeCall p).modPos p f).Placed p (s.pos p) := by
    obtain ⟨h1, h2⟩ := hg.arrive hrest ha
    exact ⟨h1, h2.of_inFlight hf⟩
  unfold State.finishClearing
  dsimp only
  split
  · exact harrive hrest.arriveBlocked
  split
  · exact harrive hrest.arriveVacant
  split
  · exact harrive (hrest.arriveRefused _)
  split
  · next hlist =>
    obtain ⟨h1, h2⟩ := hg.enterRecovering hrest (hkey.trans hlist)
    exact ⟨h1, h2.of_inFlight hf⟩
  split
  · exact harrive hrest.startReading
  split
  · exact harrive hrest.arriveVacant
  split
  · exact harrive (hrest.arriveRefused _)
  · exact harrive hrest.arriveReadyUnlisted

end

/-! ### The end of an event -/

/-- The state of an event at p with its derivation still to be made. -/
structure State.Open (p : PosId) (s : State) : Prop where
  good : s.Good .serving p 0
  lawful : (s.pos p).Lawful
  awaited : (s.pos p).cardLost = true → (s.pos p).inFlight ≠ none
  listed : (s.pos p).waiting = true → s.listed (s.pos p) = true

theorem State.Inv.opened {s : State} (h : s.Inv) (p : PosId) : s.Open p :=
  ⟨h.good p, (h.calm p).lawful, (h.calm p).settled.awaited, (h.calm p).listed⟩

/-- A placed position has its derivation to be made. -/
theorem State.Good.opened {s : State} {p : PosId} {x : Position} (h : s.Good .serving p 0 ∧ s.Placed p x) : s.Open p :=
  ⟨h.1, h.2.lawful, fun hl => absurd hl (by simp [h.2.lost]), h.2.listed⟩

/-- The tests of R35 and R129. -/
theorem State.Open.settle {s : State} {p : PosId} (h : s.Open p) : (s.settle p).Open p := by
  unfold State.settle
  dsimp only
  split
  · next hd =>
    simp only [Position.clearingDone, Bool.and_eq_true, decide_eq_true_eq, Bool.not_eq_true'] at hd
    obtain ⟨⟨⟨⟨⟨hs, -⟩, hdebt⟩, -⟩, hl⟩, -⟩ := hd
    exact State.Good.opened (h.good.finishClearing h.lawful hs hdebt hl)
  split
  · next hd =>
    simp only [Position.recoveryDone, Bool.and_eq_true, decide_eq_true_eq, Bool.not_eq_true',
      Option.isSome_iff_ne_none] at hd
    obtain ⟨⟨⟨⟨⟨⟨-, hrec⟩, hdebt⟩, -⟩, -⟩, -⟩, hl⟩ := hd
    exact State.Good.opened (h.good.finishRecovery h.lawful hrec hdebt hl)
  · exact h

/-- A derivation changes the pending operation of a lawful position alone. -/
theorem Position.Lawful.derive {x : Position} (h : x.Lawful) (hl : x.cardLost = true → x.inFlight ≠ none) :
    x.derive.Lawful ∧ x.derive.Settled := by
  unfold Position.derive
  split
  · next hf =>
    refine ⟨h, hl, fun hn => ?_⟩
    rw [hn] at hf
    cases hf
  · next hf =>
    have hnone : x.inFlight = none := by simpa using hf
    obtain ⟨a1, a2, a3, a4, a5, a6, a7, a8, a9, -⟩ := h
    refine ⟨⟨a1, a2, a3, a4, a5, a6, a7, a8, a9, fun f hff => ?_⟩, hl, fun _ => rfl⟩
    rw [show x.inFlight = some f from hff] at hnone
    cases hnone

/-- With the derivation made the state is between events, but for the arbitrations. -/
theorem State.Open.derive {s : State} {p : PosId} (h : s.Open p) : (s.derive p).Inv := by
  have hd : (s.pos p).derive.inFlight = (s.pos p).inFlight ∧ (s.pos p).derive.debt = (s.pos p).debt ∧
      (s.pos p).derive.reservation = (s.pos p).reservation ∧ (s.pos p).derive.waiting = (s.pos p).waiting ∧
      (s.pos p).derive.key = (s.pos p).key := by
    unfold Position.derive
    split <;> exact ⟨rfl, rfl, rfl, rfl, rfl⟩
  obtain ⟨h1, h2, h3, h4, h5⟩ := hd
  refine State.Good.inv (h.good.modPos h1 h2 (by rw [h3]; exact id)) ?_
  have hlaw := h.lawful.derive h.awaited
  have hp : (s.derive p).pos p = (s.pos p).derive := State.modPos_pos_self ..
  refine ⟨hp ▸ hlaw.1, hp ▸ hlaw.2, fun hw => ?_⟩
  rw [hp, h4] at hw
  have hl := h.listed hw
  unfold State.listed at hl ⊢
  rw [hp, h5]
  exact hl

end Sys2Proof.Machine
end

section
/-!
PROOFS. Arbitration: what the arbiter chooses, and that grants keep the laws and leave no candidate at a free engine.
-/

namespace Sys2Proof.Machine

/-! ### The arbiter's choice -/

theorem State.mem_candidates {s : State} {e : EngineId} {q : PosId} :
    q ∈ s.candidates e ↔ (s.pos q).pendingOp.isSome = true ∧ engineOf q (s.pos q).allocation = e := by
  simp [State.candidates, allPositions]

theorem State.mem_members {s : State} {e : EngineId} {u : Urgency} {q : PosId} :
    q ∈ s.members e u ↔ q ∈ s.candidates e ∧ (s.pos q).urgency s.settings.urgency = u := by
  simp [State.members]

/-- An order mode takes one of the class. -/
theorem pick_mem {mode : OrderMode} {e : EngineId} {pointer : Nat} {ps : List PosId} {p : PosId}
    (h : pick mode e pointer ps = some p) : p ∈ ps := by
  unfold pick at h
  split at h
  · exact List.mem_of_head? h
  · split at h
    · next hf =>
      cases h
      exact List.mem_of_find?_eq_some hf
    · exact List.mem_of_head? h

/-- An order mode takes none exactly from an empty class. -/
theorem pick_eq_none_iff {mode : OrderMode} {e : EngineId} {pointer : Nat} {ps : List PosId} :
    pick mode e pointer ps = none ↔ ps = [] := by
  constructor
  · intro h
    unfold pick at h
    split at h
    · exact List.head?_eq_none_iff.mp h
    · split at h
      · cases h
      · exact List.head?_eq_none_iff.mp h
  · rintro rfl
    cases mode <;> rfl

/-- The classes in their order: the choice is the pick of the first class that has a member (R102, R103). -/
theorem State.choose_cases (s : State) (e : EngineId) :
    (s.choose e = none ∧ ∀ u, s.members e u = []) ∨
      ∃ u p, s.choose e = some p ∧ pick (s.eng e).mode e (s.eng e).pointer (s.members e u) = some p ∧
        (∀ v, v = .a ∨ (v = .b ∧ u = .c) → v ≠ u → s.members e v = []) := by
  unfold State.choose
  dsimp only
  cases ha : pick (s.eng e).mode e (s.eng e).pointer (s.members e .a) with
  | some p => exact .inr ⟨.a, p, rfl, ha, fun v hv hne => by rcases hv with rfl | ⟨rfl, h⟩ <;> simp_all⟩
  | none =>
    have ha' := pick_eq_none_iff.mp ha
    dsimp only
    cases hb : pick (s.eng e).mode e (s.eng e).pointer (s.members e .b) with
    | some p => exact .inr ⟨.b, p, rfl, hb, fun v hv _ => by rcases hv with rfl | ⟨-, h⟩ <;> simp_all⟩
    | none =>
      have hb' := pick_eq_none_iff.mp hb
      dsimp only
      cases hc : pick (s.eng e).mode e (s.eng e).pointer (s.members e .c) with
      | some p => exact .inr ⟨.c, p, rfl, hc, fun v hv _ => by rcases hv with rfl | ⟨rfl, -⟩ <;> assumption⟩
      | none =>
        have hc' := pick_eq_none_iff.mp hc
        refine .inl ⟨rfl, fun u => ?_⟩
        cases u <;> assumption

theorem State.choose_mem {s : State} {e : EngineId} {p : PosId} (h : s.choose e = some p) : p ∈ s.candidates e := by
  rcases s.choose_cases e with ⟨hn, -⟩ | ⟨u, q, hq, hpick, -⟩
  · rw [hn] at h
    cases h
  · rw [hq] at h
    cases h
    exact (State.mem_members.mp (pick_mem hpick)).1

theorem State.choose_eq_none_iff (s : State) (e : EngineId) : s.choose e = none ↔ s.candidates e = [] := by
  constructor
  · intro h
    rcases s.choose_cases e with ⟨-, hall⟩ | ⟨u, q, hq, -⟩
    · refine List.eq_nil_iff_forall_not_mem.mpr fun q hq => ?_
      have := State.mem_members.mpr ⟨hq, rfl⟩
      rw [hall] at this
      cases this
    · rw [hq] at h
      cases h
  · intro h
    cases hc : s.choose e with
    | none => rfl
    | some p =>
      have := State.choose_mem hc
      rw [h] at this
      cases this

/-! ### Grants -/

/-- A change of the operations alone, at one position, after which engines and positions still name each other. -/
theorem State.Good.regrant {ph : Phase} {s t : State} {p : PosId} {k : Word32} (h : s.Good ph p k)
    (hother : ∀ q, q ≠ p → t.pos q = s.pos q) (hagree : t.OperationsAgree) (hd : (t.pos p).debt = (s.pos p).debt)
    (hr : (t.pos p).reservation = (s.pos p).reservation) (htear : t.tear.entries = s.tear.entries)
    (hqueue : t.queue = s.queue) (htotals : t.acct.totals = s.acct.totals) : t.Good ph p k := by
  have hsum (g : Position → Nat) (hg : g (t.pos p) = g (s.pos p)) :
      (positionSum fun q => g (t.pos q)) = positionSum fun q => g (s.pos q) := by
    refine positionSum_congr fun q => ?_
    by_cases hq : q = p
    · exact hq ▸ hg
    · rw [hother q hq]
  constructor
  case others =>
    refine fun q hq => (h.others q hq).of_eq (hother q hq) fun hl => ?_
    unfold State.listed State.tearEntry at *
    rwa [htear]
  case agree => exact hagree
  case room =>
    rw [hqueue, State.reservations_eq_sum, hsum _ (by rw [Position.places, Position.places, hr]),
      ← State.reservations_eq_sum]
    exact h.room
  case sound =>
    unfold TearList.Sound
    rw [htear]
    exact h.sound
  case balance =>
    have hbal := h.balance
    unfold State.Balance State.tornUnits at *
    rwa [htotals, htear, State.debts_eq_sum, hsum Position.debt hd, ← State.debts_eq_sum]

theorem Engine.free_iff (g : Engine) :
    g.free = true ↔ g.lane ∈ [.inService, .suspect] ∧ g.disablePending = false ∧ g.op = none := by
  have hu : g.lane.usable = true ↔ g.lane ∈ [.inService, .suspect] := by cases g.lane <;> simp [LaneState.usable]
  simp [Engine.free, hu, and_assoc]

/-- A position whose operation waits has none in flight, and it is the one derived. -/
theorem State.CalmAt.pending {s : State} {p : PosId} (h : s.CalmAt p) {op : CardOp}
    (hop : (s.pos p).pendingOp = some op) : (s.pos p).inFlight = none ∧ (s.pos p).derived = some op := by
  have hf : (s.pos p).inFlight = none := by
    cases hc : (s.pos p).inFlight with
    | none => rfl
    | some f =>
      rw [(h.lawful.running f hc).1] at hop
      cases hop
  exact ⟨hf, (h.settled.derived hf).symm.trans hop⟩

/-- The operation derived has what it presupposes (R100). -/
theorem Position.derived_presupposes {x : Position} (h : x.Lawful) {op : CardOp} (hd : x.derived = some op) :
    op ≠ .identify → 1 ≤ x.debt ∧ (op = .burn → x.doubt = none) ∧ (op = .verify → x.doubt ≠ none) := by
  unfold Position.derived at hd
  split at hd
  · cases hd
    exact fun hn => absurd rfl hn
  split at hd
  · next hv =>
    cases hd
    have hdoubt : x.doubt ≠ none := by
      intro hn
      simp [hn] at hv
    exact fun _ => ⟨h.doubted hdoubt, nofun, fun _ => hdoubt⟩
  split at hd
  · next hv hb =>
    cases hd
    simp only [Bool.and_eq_true, decide_eq_true_eq] at hb
    refine fun _ => ⟨hb.1.1.1, fun _ => ?_, nofun⟩
    refine Classical.byContradiction fun hne => ?_
    exact hv (by simp [Option.isSome_iff_ne_none, hne, hb.1.1.2, hb.1.2, hb.2])
  · cases hd

theorem State.grant_pos (s : State) (e : EngineId) (p : PosId) (op : CardOp) (pointer burst : Nat) (q : PosId) :
    (s.grant e p op pointer burst).pos q =
      if q = p then { s.pos p with pendingOp := none, inFlight := some { engine := e, op := op, discard := false } }
      else s.pos q := by
  unfold State.grant
  rw [State.modCounts_pos, State.modEng_pos, State.modPos_pos]

theorem State.grant_eng (s : State) (e : EngineId) (p : PosId) (op : CardOp) (pointer burst : Nat) (d : EngineId) :
    (s.grant e p op pointer burst).eng d =
      if d = e then
        { s.eng e with
          op := some
            { position := p, op := op, step := .select, before := (s.pos p).remaining
              key := if op = .burn then (s.pos p).key else none }
          pointer := pointer
          burst := burst }
      else s.eng d := by
  unfold State.grant
  rw [State.modCounts_eng, State.modEng_eng]
  rfl

/-- A grant names the operation at the engine and at the position. -/
theorem State.OperationsAgree.grant {s : State} (h : s.OperationsAgree) {e : EngineId} {p : PosId}
    (hfree : (s.eng e).free = true) (hf : (s.pos p).inFlight = none) (op : CardOp) (pointer burst : Nat) :
    (s.grant e p op pointer burst).OperationsAgree := by
  obtain ⟨hlane, -, hop⟩ := (s.eng e).free_iff.mp hfree
  constructor
  · intro d o ho
    rw [State.grant_eng] at ho ⊢
    split at ho
    · next hd =>
      cases ho
      rw [State.grant_pos, if_pos rfl, if_pos hd]
      exact ⟨⟨_, rfl, hd.symm, rfl⟩, hlane⟩
    · next hd =>
      obtain ⟨⟨f, hff, hfe, hfo⟩, hl⟩ := h.1 d o ho
      have hne : o.position ≠ p := by
        intro hp
        rw [hp, hf] at hff
        cases hff
      rw [State.grant_pos, if_neg hne, if_neg hd]
      exact ⟨⟨f, hff, hfe, hfo⟩, hl⟩
  · intro q f hff
    rw [State.grant_pos] at hff
    split at hff
    · next hq =>
      cases hff
      refine ⟨_, by rw [State.grant_eng, if_pos rfl], hq.symm, rfl⟩
    · obtain ⟨o, ho, hop', hk⟩ := h.2 q f hff
      have hne : f.engine ≠ e := by
        intro hfe
        rw [hfe, hop] at ho
        cases ho
      exact ⟨o, by rw [State.grant_eng, if_neg hne]; exact ho, hop', hk⟩

/-- A grant of the operation that waits keeps the laws. -/
theorem State.Inv.grant {s : State} (h : s.Inv) {e : EngineId} {p : PosId} {op : CardOp}
    (hfree : (s.eng e).free = true) (hop : (s.pos p).pendingOp = some op) (pointer burst : Nat) :
    (s.grant e p op pointer burst).Inv := by
  obtain ⟨hf, hd⟩ := (h.calm p).pending hop
  have hp := State.grant_pos s e p op pointer burst p
  rw [if_pos rfl] at hp
  refine State.Good.inv ((h.good p).regrant (t := s.grant e p op pointer burst)
    (fun q hq => by rw [State.grant_pos, if_neg hq]) (h.agree.grant hfree hf op pointer burst)
    (by rw [hp]) (by rw [hp]) rfl rfl rfl) ?_
  obtain ⟨a1, a2, a3, a4, a5, a6, a7, a8, a9, -⟩ := (h.calm p).lawful
  have hpre := Position.derived_presupposes (h.calm p).lawful hd
  refine ⟨?_, ?_, fun hw => ?_⟩
  · rw [hp]
    refine ⟨a1, a2, a3, a4, a5, a6, a7, a8, a9, fun f hff => ?_⟩
    cases hff
    exact ⟨rfl, fun hn => ⟨rfl, hpre hn⟩⟩
  · rw [hp]
    exact ⟨fun _ => nofun, fun hn => nomatch hn⟩
  · rw [hp] at hw ⊢
    exact (h.calm p).listed hw

/-! ### No candidate left at a free engine -/

/-- An engine leaves no candidate waiting where it could grant (R104). -/
def State.ServedAt (s : State) (e : EngineId) : Prop := (s.eng e).free = true → s.candidates e = []

def State.Served (s : State) : Prop := ∀ e, s.ServedAt e

/-- Fewer candidates at an engine that is no freer. -/
theorem State.ServedAt.mono {s t : State} {e : EngineId} (h : s.ServedAt e)
    (he : (t.eng e).free = true → (s.eng e).free = true)
    (hp : ∀ q, (t.pos q).pendingOp.isSome = true →
      (s.pos q).pendingOp.isSome = true ∧ (s.pos q).allocation = (t.pos q).allocation) : t.ServedAt e := by
  intro hfree
  have hnil := h (he hfree)
  refine List.eq_nil_iff_forall_not_mem.mpr fun q hq => ?_
  obtain ⟨h1, h2⟩ := State.mem_candidates.mp hq
  obtain ⟨h3, h4⟩ := hp q h1
  have : q ∈ s.candidates e := State.mem_candidates.mpr ⟨h3, h4 ▸ h2⟩
  rw [hnil] at this
  cases this

theorem State.arbitrate_cases (s : State) (e : EngineId) :
    (s.arbitrate e = s ∧ s.ServedAt e) ∨
      ∃ p op, (s.eng e).free = true ∧ s.choose e = some p ∧ (s.pos p).pendingOp = some op ∧
        s.arbitrate e = s.grant e p op ((readerIndex e p + 1) % busSize e) 1 := by
  unfold State.arbitrate
  by_cases hfree : (s.eng e).free = true
  · rw [if_pos hfree]
    cases hc : s.choose e with
    | none => exact .inl ⟨rfl, fun _ => (s.choose_eq_none_iff e).mp hc⟩
    | some p =>
      obtain ⟨op, hop⟩ := Option.isSome_iff_exists.mp (State.mem_candidates.mp (State.choose_mem hc)).1
      exact .inr ⟨p, op, hfree, rfl, hop, by simp only [hop]⟩
  · rw [if_neg hfree]
    exact .inl ⟨rfl, fun h => absurd h hfree⟩

theorem State.Inv.arbitrate {s : State} (h : s.Inv) (e : EngineId) :
    (s.arbitrate e).Inv ∧ (s.arbitrate e).ServedAt e ∧ ∀ d, s.ServedAt d → (s.arbitrate e).ServedAt d := by
  rcases s.arbitrate_cases e with ⟨heq, hs⟩ | ⟨p, op, hfree, -, hop, heq⟩
  · rw [heq]
    exact ⟨h, hs, fun _ hd => hd⟩
  · rw [heq]
    have heng : ((s.grant e p op ((readerIndex e p + 1) % busSize e) 1).eng e).free = false := by
      rw [State.grant_eng, if_pos rfl]
      simp [Engine.free]
    refine ⟨h.grant hfree hop _ _, fun hf => absurd hf (by simp [heng]), fun d hd => ?_⟩
    refine hd.mono (fun hf => ?_) fun q hq => ?_
    · by_cases hde : d = e
      · rw [hde, heng] at hf
        cases hf
      · rwa [State.grant_eng, if_neg hde] at hf
    · rw [State.grant_pos] at hq ⊢
      split at hq
      · cases hq
      · next hqp =>
        rw [if_neg hqp]
        exact ⟨hq, rfl⟩

theorem State.Inv.arbitrateAll {s : State} (h : s.Inv) (es : List EngineId) :
    (es.foldl State.arbitrate s).Inv ∧ ∀ d, (d ∈ es ∨ s.ServedAt d) → (es.foldl State.arbitrate s).ServedAt d := by
  induction es generalizing s with
  | nil => exact ⟨h, fun d hd => hd.resolve_left (by simp)⟩
  | cons e es ih =>
    obtain ⟨h1, h2, h3⟩ := h.arbitrate e
    obtain ⟨h4, h5⟩ := ih h1
    refine ⟨h4, fun d hd => h5 d ?_⟩
    rcases hd with hd | hd
    · rcases List.mem_cons.mp hd with rfl | hd
      · exact .inr h2
      · exact .inl hd
    · exact .inr (h3 d hd)

/-- The laws between commands. -/
structure State.Laws (s : State) : Prop where
  inv : s.Inv
  served : s.Served

/-- The arbitrations at the end of an event leave every free engine without a candidate (R104). -/
theorem State.Inv.serve {s : State} (h : s.Inv) : s.serve.Laws := by
  obtain ⟨h1, h2⟩ := h.arbitrateAll allEngines
  exact ⟨h1, fun e => h2 e (.inl (List.mem_finRange e))⟩

/-- The end of an event at a position. -/
theorem State.Open.conclude {s : State} {p : PosId} (h : s.Open p) : (s.conclude p).Laws := h.settle.derive.serve

end Sys2Proof.Machine
end

section
/-!
PROOFS. Enders, withdrawals, expiries and the outcomes of card operations keep the laws. `s.Taken p` is the state while
a completion is taken: nothing is in flight at p, and a card lost mark may still wait for the passing that follows.
-/

namespace Sys2Proof.Machine

/-! ### Small changes of a lawful position -/

theorem Position.Lawful.leave {x : Position} (h : x.Lawful) : Position.Lawful { x with cardLeft := true } := by
  obtain ⟨a1, a2, a3, a4, a5, a6, a7, a8, a9, a10⟩ := h
  exact ⟨a1, a2, a3, a4, a5, a6, a7, fun hl => ⟨rfl, (a8 hl).2⟩, a9, a10⟩

theorem Position.Lawful.lose {x : Position} (h : x.Lawful) (hl : x.cardLeft = true)
    (hs : x.state = .clearing ∨ (x.state = .recovering ∧ x.reservation = true)) :
    Position.Lawful { x with cardLost := true } := by
  obtain ⟨a1, a2, a3, a4, a5, a6, a7, -, a9, a10⟩ := h
  refine ⟨a1, a2, a3, a4, a5, a6, a7, fun _ => ?_, a9, a10⟩
  rcases hs with hs | ⟨hs, hr⟩
  · exact ⟨hl, a6.mpr (.inl (by simp [hs])), .inl hs⟩
  · exact ⟨hl, hr, .inr hs⟩

/-- A position in FREE_CALL whose card is forgotten (R18). -/
theorem Position.Lawful.forgetCard {x : Position} (h : x.Lawful) (hs : x.state = .freeCall) :
    Position.Lawful { x.forgetCard with cardLeft := true } := by
  have hd : x.debt = 0 := by
    refine Classical.byContradiction fun hne => ?_
    rcases h.owing hne with ho | ⟨ho, -⟩ <;> simp [hs] at ho
  have hid (f : InFlight) (hf : x.inFlight = some f) : f.op = .identify := by
    refine Classical.byContradiction fun hne => ?_
    have := ((h.running f hf).2 hne).2.1
    omega
  exact ⟨h.ceiling, by change x.debt ≤ 0; omega, fun _ => rfl, h.doubted, h.owing, h.reserved, h.context,
    fun hl => ⟨rfl, (h.lost hl).2⟩, fun hm => absurd (hs.symm.trans hm) nofun,
    fun f hf => ⟨(h.running f hf).1, fun hn => absurd (hid f hf) hn⟩⟩

theorem Position.called_state_of_inCall {x : Position} (h : x.state.inCall = true) : x.waiting = false := by
  rw [Bool.eq_false_iff, Ne, Position.waiting_iff]
  rintro ⟨hs, -⟩
  simp [hs, PosState.inCall] at h

/-! ### Changes that leave the state open -/

/-- A change of the event's position that leaves its operation, its debt and its reservation, and keeps it lawful. -/
theorem State.Open.modPos {s : State} {p : PosId} (h : s.Open p) {f : Position → Position}
    (hlaw : (f (s.pos p)).Lawful) (hf : (f (s.pos p)).inFlight = (s.pos p).inFlight)
    (hd : (f (s.pos p)).debt = (s.pos p).debt) (hr : (f (s.pos p)).reservation = (s.pos p).reservation)
    (hl : (f (s.pos p)).cardLost = true → (f (s.pos p)).inFlight ≠ none)
    (hw : (f (s.pos p)).waiting = true → (s.pos p).waiting = true ∧ (f (s.pos p)).key = (s.pos p).key) :
    (s.modPos p f).Open p := by
  refine ⟨h.good.modPos hf hd (by rw [hr]; exact id), by rw [State.modPos_pos_self]; exact hlaw,
    by rw [State.modPos_pos_self]; exact hl, fun hwt => ?_⟩
  rw [State.modPos_pos_self] at hwt
  have hlist := h.listed (hw hwt).1
  unfold State.listed at hlist ⊢
  rw [State.modPos_pos_self, (hw hwt).2]
  exact hlist

/-- A change of the event's position that the laws do not see. -/
theorem State.Open.modPos_view {s : State} {p : PosId} (h : s.Open p) {f : Position → Position}
    (hv : (f (s.pos p)).view = (s.pos p).view) : (s.modPos p f).Open p := by
  have hlaw := h.lawful.of_view hv
  simp only [Position.view, Prod.mk.injEq] at hv
  obtain ⟨h1, h2, -, h4, -, h6, -, h8, h9, -⟩ := hv
  refine h.modPos hlaw h9 h4 h8 (by rw [h6, h9]; exact h.awaited) fun hw => ⟨?_, by unfold Position.key; rw [h2]⟩
  rw [Position.waiting_iff] at hw ⊢
  rwa [h1, h8] at hw

/-- A change outside positions, engines, tear list, queue and unit totals. -/
theorem State.Open.frame {s t : State} {p : PosId} (h : s.Open p) (hpos : t.positions = s.positions)
    (heng : t.engines = s.engines) (htear : t.tear.entries = s.tear.entries) (hqueue : t.queue = s.queue)
    (hc : t.acct.totals.charged = s.acct.totals.charged) (hb : t.acct.totals.burned = s.acct.totals.burned)
    (hw : t.acct.totals.writtenOff = s.acct.totals.writtenOff) : t.Open p := by
  have hp := State.pos_congr hpos p
  refine ⟨h.good.frame hpos heng htear (Nat.le_of_eq (by rw [hqueue])) hc hb hw, hp ▸ h.lawful, hp ▸ h.awaited, fun hwt => ?_⟩
  rw [hp] at hwt ⊢
  have hlist := h.listed hwt
  unfold State.listed State.tearEntry at hlist ⊢
  rwa [htear]

/-- An ender (R31). -/
theorem State.Open.endCall {s : State} {p : PosId} (h : s.Open p) (hs : (s.pos p).state.inCall = true)
    (why : EndCause) : (s.endCall p why).Open p := by
  obtain ⟨-, -, hlost, -⟩ := h.lawful.inCall hs
  have hx := Position.endCall_lawful h.lawful hs why s.link.stamp (s.settings.clearWait * 10)
  have hkeep : (((s.pos p).mapCall (·.finish why s.link.stamp)).enterClearing (s.settings.clearWait * 10)).inFlight =
        (s.pos p).inFlight ∧
      (((s.pos p).mapCall (·.finish why s.link.stamp)).enterClearing (s.settings.clearWait * 10)).debt =
        (s.pos p).debt ∧
      (((s.pos p).mapCall (·.finish why s.link.stamp)).enterClearing (s.settings.clearWait * 10)).reservation =
        (s.pos p).reservation ∧
      (((s.pos p).mapCall (·.finish why s.link.stamp)).enterClearing (s.settings.clearWait * 10)).cardLost =
        (s.pos p).cardLost ∧
      (((s.pos p).mapCall (·.finish why s.link.stamp)).enterClearing (s.settings.clearWait * 10)).state = .clearing := by
    unfold Position.enterClearing
    dsimp only
    split <;> exact ⟨rfl, rfl, rfl, rfl, rfl⟩
  obtain ⟨h1, h2, h3, h4, h5⟩ := hkeep
  refine h.modPos hx h1 h2 h3 (fun hl => absurd hl (by rw [h4]; simp [hlost])) fun hw => ?_
  have := (Position.waiting_iff _).mp hw
  rw [h5] at this
  cases this.1

theorem State.endCall_pos (s : State) (p : PosId) (why : EndCause) :
    (s.endCall p why).pos p = (s.pos p).inClearing s.settings.clearWait s.link.stamp why := by
  rw [State.endCall_eq, State.modPos_pos_self]

/-! ### Withdrawals -/

/-- An arrival of a position at rest, with nothing in flight where nothing was. -/
theorem State.Open.arrive {s : State} {p : PosId} (h : s.Open p) {f : Position → Position} (hx : (s.pos p).Rest)
    (hf : (s.pos p).Arrived (f (s.pos p))) : (s.modPos p f).Open p := State.Good.opened (h.good.arrive hx hf)

/-- The debt of a position with nothing in flight is passed (R117). -/
theorem State.Good.passDebt_open {s : State} {p : PosId} (h : s.Good .serving p 0) (hx : (s.pos p).Lawful)
    (hf : (s.pos p).inFlight = none) (hw : (s.pos p).waiting = false) :
    (s.passDebt p).Open p ∧ ((s.passDebt p).pos p).inFlight = none := by
  obtain ⟨hg, hp⟩ := h.passDebt hx
  have hrole := (s.pos p).passed_role
  obtain ⟨hd, hdo, hl, hrem, hpend⟩ := hx.passed_fields
  refine ⟨⟨hg, ?_, fun hlost => ?_, fun hwt => ?_⟩, by rw [hp, hrole.inFlight, hf]⟩
  · rw [hp]
    exact hx.of_cleared hrole (fun f hff => by rw [hf] at hff; cases hff) hpend hd hdo hl hrem
  · rw [hp, hl] at hlost
    cases hlost
  · rw [hp, Position.waiting, hrole.state, hrole.reservation] at hwt
    rw [Position.waiting, hwt] at hw
    cases hw

/-- The held card has left a position in CLEARING (R118, R120). -/
theorem State.Open.passOrLose {s : State} {p : PosId} (h : s.Open p) (hs : (s.pos p).state = .clearing)
    (hl : (s.pos p).cardLeft = true) :
    (s.passOrLose p).Open p ∧ ((s.pos p).inFlight = none → ((s.passOrLose p).pos p).inFlight = none) := by
  have hw : (s.pos p).waiting = false := by
    rw [Bool.eq_false_iff, Ne, Position.waiting_iff, hs]
    rintro ⟨hc, -⟩
    cases hc
  unfold State.passOrLose
  split
  · next hf =>
    have hne : (s.pos p).inFlight ≠ none := Option.isSome_iff_ne_none.mp hf
    refine ⟨h.modPos (h.lawful.lose hl (.inl hs)) rfl rfl rfl (fun _ => hne) fun hwt => ?_, fun hn => absurd hn hne⟩
    exact ⟨hwt, rfl⟩
  · next hf =>
    have hnone : (s.pos p).inFlight = none := by simpa using hf
    obtain ⟨h1, h2⟩ := h.good.passDebt_open h.lawful hnone hw
    exact ⟨h1, fun _ => h2⟩

/-- The IDENTIFY of a position in READING takes the discard mark, and the position arrives in VACANT (R23). -/
theorem State.Open.discardIdentify {s : State} {p : PosId} (h : s.Open p) (hx : (s.pos p).Rest) :
    (s.modPos p fun x => x.discardIdentify.arriveVacant).Open p ∧
      ((s.pos p).inFlight = none → ((s.modPos p fun x => x.discardIdentify.arriveVacant).pos p).inFlight = none) := by
  have hrest : (s.pos p).discardIdentify.Rest := by
    refine ⟨hx.debt, hx.doubt, hx.call, hx.recovery, hx.reservation, hx.cardLost, hx.cardless, fun f hf => ?_⟩
    obtain ⟨f', hf', rfl⟩ := Option.map_eq_some_iff.mp hf
    exact hx.running f' hf'
  have ha := hrest.arriveVacant
  have hflight : ((s.pos p).discardIdentify.arriveVacant).inFlight.map (fun f => (f.engine, f.op)) =
      (s.pos p).inFlight.map fun f => (f.engine, f.op) := by
    rw [ha.inFlight, Position.discardIdentify, Option.map_map]
    rfl
  have hg := h.good.regrant (t := s.modPos p fun x => x.discardIdentify.arriveVacant)
    (fun q hq => s.modPos_pos_ne hq _)
    (h.good.agree.of_same (fun q => by
      rw [State.modPos_pos]
      split
      · next hq => rw [hq]; exact hflight
      · rfl) (fun _ => rfl) fun _ _ => rfl)
    (by rw [State.modPos_pos_self, ha.rest.debt, hx.debt])
    (by rw [State.modPos_pos_self, ha.rest.reservation, hx.reservation]) rfl rfl rfl
  have hp : (s.modPos p fun x => x.discardIdentify.arriveVacant).Placed p (s.pos p).discardIdentify := by
    refine Position.Arrived.placed ?_
    rw [State.modPos_pos_self]
    exact ha
  refine ⟨State.Good.opened ⟨hg, hp⟩, fun hn => ?_⟩
  rw [State.modPos_pos_self, ha.inFlight, Position.discardIdentify, hn]
  rfl

/-- A recovery that has taken its entry, or is at rest while it waits. -/
theorem Position.Lawful.recovering {x : Position} (h : x.Lawful) (hs : x.state = .recovering)
    (hw : x.waiting = false) : x.recovery ≠ none ∧ x.reservation = true := by
  have hr : x.reservation = true := by
    refine Classical.byContradiction fun hne => ?_
    rw [Bool.not_eq_true] at hne
    rw [(x.waiting_iff).mpr ⟨hs, hne⟩] at hw
    cases hw
  rcases h.reserved.mp hr with hc | ⟨-, hrec⟩
  · simp [hs] at hc
  · exact ⟨hrec, hr⟩

/-- The held card leaves a position (07, table of section 7.2). -/
theorem State.Open.cardLeaves {s : State} {p : PosId} (h : s.Open p) :
    (s.cardLeaves p).Open p ∧ ((s.pos p).inFlight = none → ((s.cardLeaves p).pos p).inFlight = none) := by
  have hleft : (s.modPos p fun x => { x with cardLeft := true }).Open p :=
    h.modPos h.lawful.leave rfl rfl rfl h.awaited fun hw => ⟨hw, rfl⟩
  have hcall (hin : (s.pos p).state.inCall = true) :
      let t := (State.endCall ((s.modGlobal fun g => { g with withdrawals := saturate g.withdrawals 1 }).modPos p
        fun x => { x with cardLeft := true }) p .cardWithdrawn).passOrLose p
      t.Open p ∧ ((s.pos p).inFlight = none → (t.pos p).inFlight = none) := by
    have h1 : (s.modGlobal fun g => { g with withdrawals := saturate g.withdrawals 1 }).Open p :=
      h.frame rfl rfl rfl rfl rfl rfl rfl
    have h2 : (State.modPos (s.modGlobal fun g => { g with withdrawals := saturate g.withdrawals 1 }) p
        fun x => { x with cardLeft := true }).Open p :=
      h1.modPos h1.lawful.leave rfl rfl rfl h1.awaited fun hw => ⟨hw, rfl⟩
    have h3 := h2.endCall (by rw [State.modPos_pos_self]; exact hin) .cardWithdrawn
    have hp := State.endCall_pos (State.modPos (s.modGlobal fun g =>
      { g with withdrawals := saturate g.withdrawals 1 }) p fun x => { x with cardLeft := true }) p .cardWithdrawn
    rw [State.modPos_pos_self] at hp
    obtain ⟨h4, h5⟩ := h3.passOrLose (by rw [hp]; rfl) (by rw [hp]; rfl)
    refine ⟨h4, fun hn => h5 ?_⟩
    rw [hp]
    exact hn
  have hrest (hs : (s.pos p).state ∈ [.reading, .refused, .ready]) : (s.pos p).Rest := by
    simp only [List.mem_cons, List.not_mem_nil, or_false] at hs
    refine h.lawful.rest ?_ ?_ <;> rcases hs with hs | hs | hs <;> simp [hs, PosState.called]
  unfold State.cardLeaves
  split
  case h_1 | h_2 => exact ⟨h, id⟩
  case h_3 hs => exact h.discardIdentify (hrest (by simp [hs]))
  case h_4 hs | h_5 hs =>
    have hx := hrest (by simp [hs])
    exact ⟨h.arrive hx hx.arriveVacant, fun hn => by rw [State.modPos_pos_self, hx.arriveVacant.inFlight, hn]⟩
  case h_6 hs | h_7 hs | h_8 hs => exact hcall (by simp [hs, PosState.inCall])
  case h_9 hs =>
    refine ⟨h.modPos (h.lawful.forgetCard hs) rfl rfl rfl h.awaited fun hw => ?_, fun hn => ?_⟩
    · have := ((Position.waiting_iff _).mp hw).1
      exact absurd (hs.symm.trans this) nofun
    · rw [State.modPos_pos_self]
      exact hn
  case h_10 hs =>
    obtain ⟨h1, h2⟩ := hleft.passOrLose (by rw [State.modPos_pos_self]; exact hs) (by rw [State.modPos_pos_self])
    refine ⟨h1, fun hn => h2 ?_⟩
    rw [State.modPos_pos_self]
    exact hn
  case h_11 hs =>
    have hp : ((s.modPos p fun x => { x with cardLeft := true }).pos p) = { s.pos p with cardLeft := true } :=
      State.modPos_pos_self ..
    dsimp only
    split
    · next hw =>
      have hx : ((s.modPos p fun x => { x with cardLeft := true }).pos p).Rest :=
        hleft.lawful.rest_of_waiting (by rw [hp]; exact hw)
      refine ⟨hleft.arrive hx hx.arriveVacant, fun hn => ?_⟩
      rw [State.modPos_pos_self, hx.arriveVacant.inFlight, hp]
      exact hn
    · next hw =>
      have hw' : (s.pos p).waiting = false := by simpa using hw
      obtain ⟨hrec, hres⟩ := h.lawful.recovering hs hw'
      split
      · next hf =>
        have hne : (s.pos p).inFlight ≠ none := Option.isSome_iff_ne_none.mp hf
        refine ⟨hleft.modPos ?_ rfl rfl rfl (fun _ => ?_) fun hwt => ⟨hwt, rfl⟩, fun hn => absurd hn hne⟩
        · rw [hp]
          exact h.lawful.leave.lose rfl (.inr ⟨hs, hres⟩)
        · rw [hp]
          exact hne
      · next hf =>
        have hnone : (s.pos p).inFlight = none := by simpa using hf
        have hfin := hleft.good.loseRecovery (by rw [hp]; exact h.lawful.leave) (by rw [hp]; exact hrec)
          (by rw [hp]; exact hnone)
        refine ⟨State.Good.opened hfin, fun _ => ?_⟩
        rw [hfin.2.inFlight, hp]
        exact hnone

end Sys2Proof.Machine
end

section
/-!
PROOFS. The outcomes of card operations keep the laws. `s.Taken p` is the state while a completion is taken: nothing is
in flight at p, and a card lost mark may still wait for the passing that follows.
-/

namespace Sys2Proof.Machine

/-! ### Calls cut off while they meter -/

/-- An ender takes a position in METERING or LAST_UNIT to CLEARING, whatever METERING must leave on the card. -/
theorem Position.Metering.endCall {x : Position} (h : x.Metering) (why : EndCause) (now : Word32) (wait : Nat) :
    ((x.mapCall (·.finish why now)).enterClearing wait).Lawful := by
  have hl : Position.Metering { x with state := .lastUnit } :=
    ⟨.inr rfl, h.ceiling, h.covered, h.cardless, h.doubted, h.call, h.recovery, h.reservation, h.cardLost, h.running⟩
  exact Position.endCall_lawful (hl.lawful nofun) rfl why now wait

theorem State.Good.endMetering {s : State} {p : PosId} (h : s.Good .serving p 0) (hx : (s.pos p).Metering)
    (why : EndCause) : (s.endCall p why).Open p ∧ ((s.endCall p why).pos p).inFlight = (s.pos p).inFlight := by
  have hlaw := hx.endCall why s.link.stamp (s.settings.clearWait * 10)
  have hp := s.endCall_pos p why
  have hf : ((s.endCall p why).pos p).inFlight = (s.pos p).inFlight := by rw [hp]; rfl
  refine ⟨⟨?_, ?_, fun hl => ?_, fun hw => ?_⟩, hf⟩
  · rw [State.endCall_eq]
    exact h.modPos rfl rfl id
  · unfold State.endCall
    rw [State.modPos_pos_self]
    exact hlaw
  · rw [hp] at hl
    exact absurd (hx.cardLost.symm.trans hl) nofun
  · rw [hp] at hw
    exact absurd ((Position.waiting_iff _).mp hw).1 nofun

/-! ### A completion under way -/

structure State.Taken (p : PosId) (s : State) : Prop where
  good : s.Good .serving p 0
  lawful : (s.pos p).Lawful
  listed : (s.pos p).waiting = true → s.listed (s.pos p) = true
  idle : (s.pos p).inFlight = none

theorem State.Open.taken {s : State} {p : PosId} (h : s.Open p) (hf : (s.pos p).inFlight = none) : s.Taken p :=
  ⟨h.good, h.lawful, h.listed, hf⟩

theorem State.Placed.taken {s : State} {p : PosId} {x : Position} (h : s.Good .serving p 0 ∧ s.Placed p x)
    (hf : x.inFlight = none) : s.Taken p := ⟨h.1, h.2.lawful, h.2.listed, h.2.inFlight.trans hf⟩

section
variable {s : State} {p : PosId} (h : s.Taken p)
include h

/-- A change of the event's position that keeps it lawful. -/
theorem State.Taken.modPos {f : Position → Position} (hlaw : (f (s.pos p)).Lawful)
    (hr : (s.pos p).SameRole (f (s.pos p))) (hd : (f (s.pos p)).debt = (s.pos p).debt) : (s.modPos p f).Taken p := by
  refine ⟨h.good.modPos hr.inFlight hd (by rw [hr.reservation]; exact id), ?_, fun hw => ?_, ?_⟩
  · rw [State.modPos_pos_self]
    exact hlaw
  · rw [State.modPos_pos_self] at hw ⊢
    have hl := h.listed (by rwa [Position.waiting, hr.state, hr.reservation] at hw)
    unfold State.listed at hl ⊢
    rwa [Position.key, hr.identity]
  · rw [State.modPos_pos_self, hr.inFlight, h.idle]

theorem State.Taken.modPos_view {f : Position → Position} (hv : (f (s.pos p)).view = (s.pos p).view) :
    (s.modPos p f).Taken p := by
  refine h.modPos (h.lawful.of_view hv) (.of_view hv) ?_
  simp only [Position.view, Prod.mk.injEq] at hv
  exact hv.2.2.2.1

/-- A position that owes is in METERING, LAST_UNIT or CLEARING, or has taken an entry. -/
theorem State.Taken.not_waiting (hd : (s.pos p).debt ≠ 0) : (s.pos p).waiting = false := (h.lawful.of_owing hd).1

/-! ### CARD_FAULT -/

omit h in
/-- A CARD_FAULT at a position that is, but for its counts, a lawful one that owes (R78). -/
theorem State.Good.cardFault {x : Position} (h : s.Good .serving p 0) (hx : x.Lawful) (hd : x.debt ≠ 0)
    (hf : x.inFlight = none) (hr : x.SameRole (s.pos p)) :
    (s.cardFault p).Taken p := by
  have hp : (s.debtLost p).pos p = (s.pos p).debtLost := by
    rw [State.debtLost, State.reportWrittenOff_pos, State.modPos_pos_self]
  have hrole : x.SameRole ((s.debtLost p).pos p) := by rw [hp]; exact hr.trans (s.pos p).debtLost_role
  obtain ⟨h1, -, h3, h4, -⟩ := (s.pos p).debtLost_fields
  rw [← hp] at h1 h3 h4
  have hg : (s.debtLost p).Good .serving p 0 := h.debtLost
  have hidle : ((s.debtLost p).pos p).inFlight = none := hrole.inFlight.trans hf
  obtain ⟨-, -, hid⟩ := hx.of_owing hd
  have hlaw (hm : x.state ≠ .metering) : ((s.debtLost p).pos p).Lawful := by
    refine hx.of_units hrole hf (by omega) (by omega) (fun hi => absurd hi hid) (fun hn => absurd h3 hn)
      (fun hc => ?_) fun hs => absurd hs hm
    rw [h4] at hc
    cases hc
  have hin (hs : x.state = .metering ∨ x.state = .lastUnit) : ((s.debtLost p).endCall p .cardFault).Taken p := by
    have hx' := hx.metering hs
    have hmeter : ((s.debtLost p).pos p).Metering := by
      refine ⟨by rw [hrole.state]; exact hs, by omega, by omega, fun hi => ?_, fun hn => absurd h3 hn, ?_, ?_, ?_, h4,
        fun f hff => ?_⟩
      · rw [hrole.identity] at hi
        exact absurd hi hid
      · rw [← Option.isSome_iff_ne_none, hrole.call, Option.isSome_iff_ne_none]
        exact hx'.call
      · rw [← Option.not_isSome_iff_eq_none, hrole.recovery, hx'.recovery]
        exact nofun
      · rw [hrole.reservation, hx'.reservation]
      · rw [hidle] at hff
        cases hff
    obtain ⟨h5, h6⟩ := hg.endMetering hmeter .cardFault
    exact h5.taken (h6.trans hidle)
  have hst := hr.state
  rw [State.cardFault_def]
  rcases hx.owing hd with ho | ⟨ho, hrec⟩
  · simp only [List.mem_cons, List.not_mem_nil, or_false] at ho
    rcases ho with ho | ho | ho
    · rw [hst, ho]
      exact hin (.inl ho)
    · rw [hst, ho]
      exact hin (.inr ho)
    · rw [hst, ho]
      refine ⟨hg, hlaw (by simp [ho]), fun hw => ?_, hidle⟩
      rw [Position.waiting, hrole.state, ho] at hw
      cases hw
  · rw [hst, ho]
    have hrec' : ((s.debtLost p).pos p).recovery ≠ none := by
      rw [← Option.isSome_iff_ne_none, hrole.recovery, Option.isSome_iff_ne_none]
      exact hrec
    obtain ⟨hg2, hrest, hp2⟩ := hg.closeRecovery_rest (hlaw (by simp [ho])) hrec' h1 h4 .cardFault
    refine State.Placed.taken (hg2.arrive hrest ?_) (by rw [hp2]; exact hidle)
    split
    · exact hrest.arriveVacant
    · exact hrest.arriveRefused .faulty

theorem State.Taken.cardFault (hd : 1 ≤ (s.pos p).debt) : (s.cardFault p).Taken p :=
  h.good.cardFault h.lawful (by omega) h.idle (.of_view rfl)

/-- A failed attempt (R73). -/
theorem State.Taken.strike (hd : 1 ≤ (s.pos p).debt) : (s.strike p).Taken p := by
  unfold State.strike
  split
  · exact h.cardFault hd
  · exact h.modPos_view rfl

/-! ### Units burned -/

/-- A unit burned off a debt without doubt, the counter read put to the card (R74, R76). -/
theorem State.Taken.burned_lawful (hd : 1 ≤ (s.pos p).debt) (hdo : (s.pos p).doubt = none) {y : Position} {r : Nat}
    (hy : y = { (s.pos p).unitBurned with remaining := r }) (hle : (s.pos p).debt ≤ r + 1)
    (hm : (s.pos p).state = .metering → r + 1 = (s.pos p).remaining) : y.Lawful := by
  subst hy
  obtain ⟨h1, -, h3, h4, -⟩ := (s.pos p).unitBurned_fields
  obtain ⟨-, -, hid⟩ := h.lawful.of_owing (x := s.pos p) (by omega)
  refine h.lawful.of_units (.trans (s.pos p).unitBurned_role ⟨rfl, rfl, rfl, rfl, rfl, rfl, rfl, rfl⟩) h.idle ?_ ?_
    (fun hi => absurd hi hid) (fun hn => absurd (h3.trans hdo) hn) (fun hc => h4 ▸ hc) fun hs n hn => ?_
  · exact Nat.le_trans (Nat.le_of_eq h1) (Nat.sub_le _ _)
  · change (s.pos p).unitBurned.debt ≤ r
    omega
  · change (s.pos p).unitBurned.debt + n ≤ r
    have := h.lawful.metered hs n hn
    have := hm hs
    omega

theorem State.Taken.burned_good (hd : 1 ≤ (s.pos p).debt) (g : Position → Nat) :
    ((s.unitBurned p).modPos p fun x => { x with remaining := g x }).Good .serving p 0 :=
  (h.good.unitBurned hd).modPos rfl rfl id

omit h in
theorem State.burned_pos (s : State) (p : PosId) (g : Position → Nat) :
    ((s.unitBurned p).modPos p fun x => { x with remaining := g x }).pos p =
      { (s.pos p).unitBurned with remaining := g (s.pos p).unitBurned } := by
  rw [State.modPos_pos_self, State.unitBurned_def, State.reportBurned_pos, State.modPos_pos_self]

theorem State.Taken.unitDone (hd : 1 ≤ (s.pos p).debt) (hdo : (s.pos p).doubt = none) : (s.unitDone p).Taken p := by
  have hp := State.burned_pos s p (·.remaining - 1)
  obtain ⟨-, h2, -⟩ := (s.pos p).unitBurned_fields
  have hcov := h.lawful.covered
  have hrole : (s.pos p).SameRole { (s.pos p).unitBurned with remaining := (s.pos p).unitBurned.remaining - 1 } :=
    .trans (s.pos p).unitBurned_role ⟨rfl, rfl, rfl, rfl, rfl, rfl, rfl, rfl⟩
  refine ⟨h.burned_good hd (·.remaining - 1), h.burned_lawful hd hdo hp (by omega) (by omega), fun hw => ?_, ?_⟩
  · change (((s.unitBurned p).modPos p fun x => { x with remaining := x.remaining - 1 }).pos p).waiting = true at hw
    rw [hp, Position.waiting, hrole.state, hrole.reservation] at hw
    exact absurd (h.not_waiting (by omega)) (by rw [Position.waiting, hw]; exact nofun)
  · exact (congrArg Position.inFlight hp).trans (hrole.inFlight.trans h.idle)

/-- A counter lower than one less (R76, R77). -/
theorem State.Taken.unitsLost (hd : 1 ≤ (s.pos p).debt) (hdo : (s.pos p).doubt = none) (counter : Nat) :
    (s.unitsLost p counter).Taken p := by
  have hp := State.burned_pos s p fun _ => counter
  obtain ⟨h1, h2, h3, h4, -⟩ := (s.pos p).unitBurned_fields
  have hrole : (s.pos p).SameRole { (s.pos p).unitBurned with remaining := counter } :=
    .trans (s.pos p).unitBurned_role ⟨rfl, rfl, rfl, rfl, rfl, rfl, rfl, rfl⟩
  have hg := h.burned_good hd fun _ => counter
  obtain ⟨-, -, hid⟩ := h.lawful.of_owing (x := s.pos p) (by omega)
  have hceil := h.lawful.ceiling
  unfold State.unitsLost
  dsimp only
  split
  · exact hg.cardFault h.lawful (by omega) h.idle (by rw [hp]; exact hrole)
  · next hle =>
    rw [hp] at hle
    change ¬counter < (s.pos p).unitBurned.debt at hle
    obtain ⟨hlf, hld, hlr, -⟩ := Position.lastUnitTest_fields { (s.pos p).unitBurned with remaining := counter }
    have hlaw : (Position.lastUnitTest { (s.pos p).unitBurned with remaining := counter }).Lawful := by
      by_cases hs : (s.pos p).state = .metering
      · have hx := h.lawful.metering (.inl hs)
        refine Position.Metering.lastUnitTest ⟨.inl (hrole.state.trans hs), ?_, ?_, fun hi => ?_,
          fun hn => absurd (h3.trans hdo) hn, ?_, ?_, hrole.reservation.trans hx.reservation, h4.trans hx.cardLost,
          fun f hff => ?_⟩
        · change (s.pos p).unitBurned.debt ≤ 7
          omega
        · change (s.pos p).unitBurned.debt ≤ counter
          omega
        · exact absurd (hrole.identity.symm.trans hi) hid
        · rw [← Option.isSome_iff_ne_none, hrole.call, Option.isSome_iff_ne_none]
          exact hx.call
        · rw [← Option.not_isSome_iff_eq_none, hrole.recovery, hx.recovery]
          exact nofun
        · rw [hrole.inFlight, h.idle] at hff
          cases hff
      · have heq : Position.lastUnitTest { (s.pos p).unitBurned with remaining := counter } =
            { (s.pos p).unitBurned with remaining := counter } := by
          unfold Position.lastUnitTest
          split
          · rfl
          · exact if_neg fun hc => hs (hrole.state.symm.trans hc.1)
        rw [heq]
        exact h.burned_lawful hd hdo rfl (by omega) fun hm => absurd hm hs
    refine ⟨hg.modPos (by rw [hp]; exact hlf) (by rw [hp]; exact hld) (by rw [hp, hlr]; exact id), ?_, fun hw => ?_, ?_⟩
    · rw [State.modPos_pos_self, hp]
      exact hlaw
    · rw [State.modPos_pos_self, hp, Position.waiting_iff, hlr, hrole.reservation] at hw
      have hst : (Position.lastUnitTest { (s.pos p).unitBurned with remaining := counter }).state = .recovering →
          (s.pos p).state = .recovering := by
        unfold Position.lastUnitTest
        split
        · exact fun hs => hrole.state.symm.trans hs
        · split
          · exact nofun
          · exact fun hs => hrole.state.symm.trans hs
      have hwait := (Position.waiting_iff (s.pos p)).mpr ⟨hst hw.1, hw.2⟩
      rw [h.not_waiting (by omega)] at hwait
      cases hwait
    · rw [State.modPos_pos_self, hp, hlf]
      exact hrole.inFlight.trans h.idle

/-! ### The outcomes -/

theorem State.Taken.setDoubt (hd : 1 ≤ (s.pos p).debt) : (s.modPos p (·.setDoubt)).Taken p := by
  refine h.modPos ?_ ⟨rfl, rfl, rfl, rfl, rfl, rfl, rfl, rfl⟩ rfl
  exact h.lawful.of_units ⟨rfl, rfl, rfl, rfl, rfl, rfl, rfl, rfl⟩ h.idle (Nat.le_refl _) h.lawful.covered
    h.lawful.cardless (fun _ => hd) id h.lawful.metered

theorem State.Taken.clearDoubt : (s.modPos p fun x => { x with doubt := none }).Taken p := by
  refine h.modPos ?_ ⟨rfl, rfl, rfl, rfl, rfl, rfl, rfl, rfl⟩ rfl
  exact h.lawful.of_units ⟨rfl, rfl, rfl, rfl, rfl, rfl, rfl, rfl⟩ h.idle (Nat.le_refl _) h.lawful.covered
    h.lawful.cardless (fun hn => absurd rfl hn) id h.lawful.metered

/-- An anomaly is marked; debt and doubt are as they were. -/
theorem State.Taken.markAnomaly (hd : 1 ≤ (s.pos p).debt) (hdo : (s.pos p).doubt = none) :
    (s.modPos p (·.markAnomaly)).Taken p ∧ 1 ≤ ((s.modPos p (·.markAnomaly)).pos p).debt ∧
      ((s.modPos p (·.markAnomaly)).pos p).doubt = none := by
  have hv := (s.pos p).markAnomaly_view
  refine ⟨h.modPos_view hv, ?_⟩
  simp only [Position.view, Prod.mk.injEq] at hv
  obtain ⟨-, -, -, h4, h5, -⟩ := hv
  rw [State.modPos_pos_self, h4, h5]
  exact ⟨hd, hdo⟩

theorem State.Taken.anomaly (hd : 1 ≤ (s.pos p).debt) (hdo : (s.pos p).doubt = none) (before counter : Nat) :
    (if counter + 1 < before then (s.modPos p (·.markAnomaly)).unitsLost p counter
      else (s.modPos p (·.markAnomaly)).cardFault p).Taken p := by
  obtain ⟨h1, h2, h3⟩ := h.markAnomaly hd hdo
  split
  · exact h1.unitsLost h2 h3 counter
  · exact h1.cardFault h2

theorem State.Taken.burnOutcome (hd : 1 ≤ (s.pos p).debt) (hdo : (s.pos p).doubt = none) (before : Nat)
    (o : OpOutcome) : (s.burnOutcome p before o).Taken p := by
  unfold State.burnOutcome
  split
  case h_1 => exact h.unitDone hd hdo
  case h_2 => exact h.strike hd
  case h_3 =>
    refine (h.setDoubt hd).strike ?_
    rw [State.modPos_pos_self]
    exact hd
  case h_4 | h_5 | h_6 => exact h.setDoubt hd
  case h_7 counter => exact h.anomaly hd hdo before counter
  case h_8 | h_9 | h_10 => exact h

/-- Another card is found in the slot (R77, R119). -/
theorem State.Taken.otherCard : (s.otherCard p).Taken p := by
  unfold State.otherCard
  split
  · next hl =>
    rw [State.modPos_eq_self (by rw [← (h.lawful.lost hl).1])]
    exact h
  · next hl =>
    have ho : s.Open p := ⟨h.good, h.lawful, fun hc => absurd hc hl, h.listed⟩
    obtain ⟨h1, h2⟩ := ho.cardLeaves
    exact h1.taken (h2 h.idle)

theorem State.Taken.resolveVerify (hd : 1 ≤ (s.pos p).debt) (before : Nat) (r : Header) :
    (s.resolveVerify p before r).Taken p := by
  have h1 := h.clearDoubt
  have hd1 : 1 ≤ ((s.modPos p fun x => { x with doubt := none }).pos p).debt := by rw [State.modPos_pos_self]; exact hd
  have hdo : ((s.modPos p fun x => { x with doubt := none }).pos p).doubt = none := by rw [State.modPos_pos_self]
  unfold State.resolveVerify
  dsimp only
  split
  · exact h.otherCard
  split
  · exact h1.unitDone hd1 hdo
  split
  · exact h1
  · exact h1.anomaly hd1 hdo before r.counter

theorem State.Taken.verifyOutcome (hd : 1 ≤ (s.pos p).debt) (o : OpOutcome) : (s.verifyOutcome p o).Taken p := by
  unfold State.verifyOutcome
  split
  case h_1 r =>
    split
    · exact h
    · exact h.resolveVerify hd _ r
  case h_2 | h_3 =>
    split
    · exact h.strike hd
    · exact h
  all_goals exact h

/-! ### IDENTIFY -/

/-- An arrival of the card's position from READING. -/
theorem State.Taken.arrive (hx : (s.pos p).Rest) {f : Position → Position} (hf : (s.pos p).Arrived (f (s.pos p))) :
    (s.modPos p f).Taken p := State.Placed.taken (h.good.arrive hx hf) h.idle

/-- The card read is held (R18, R21). -/
theorem State.Taken.hold (hx : (s.pos p).Rest) (r : Header) (n : Nat) :
    (s.modPos p (·.hold r n)).Good .serving p 0 ∧ ((s.modPos p (·.hold r n)).pos p).Rest ∧
      (s.modPos p (·.hold r n)).pos p = (s.pos p).hold r n := by
  refine ⟨h.good.modPos rfl rfl id, ?_, State.modPos_pos_self ..⟩
  rw [State.modPos_pos_self]
  exact hx.of_fields rfl rfl rfl rfl rfl rfl nofun rfl rfl

theorem State.Taken.identifyRead (hx : (s.pos p).Rest) (r : Header) : (s.identifyRead p r).Taken p := by
  have h0 : (s.modPos p fun x => { x with retry := 0 }).Taken p := h.modPos_view rfl
  have hp : (s.modPos p fun x => { x with retry := 0 }).pos p = { s.pos p with retry := 0 } := State.modPos_pos_self ..
  have hx0 : ((s.modPos p fun x => { x with retry := 0 }).pos p).Rest := by rw [hp]; exact hx.of_view rfl
  have hidle (n : Nat) : (((s.modPos p fun x => { x with retry := 0 }).pos p).hold r n).inFlight = none := h0.idle
  unfold State.identifyRead
  dsimp only
  split
  · exact h0.arrive hx0 (hx0.arriveRefused _)
  split
  · exact h0.arrive hx0 (hx0.arriveRefused _)
  split
  · next hl =>
    obtain ⟨h1, h2, h3⟩ := h0.hold hx0 r (min r.counter r.face)
    refine State.Placed.taken (h1.enterRecovering h2 ?_) (by rw [h3]; exact hidle _)
    rw [h3]
    exact hl
  split
  · exact h0.arrive hx0 (hx0.arriveRefused _)
  split
  · obtain ⟨h1, h2, h3⟩ := h0.hold hx0 r 0
    rw [← State.modPos_modPos]
    exact State.Placed.taken (h1.arrive h2 (h2.arriveRefused .empty)) (by rw [h3]; exact hidle _)
  · obtain ⟨h1, h2, h3⟩ := h0.hold hx0 r r.counter
    exact State.Placed.taken (h1.arriveReady h2) (by rw [h3]; exact hidle _)

theorem State.Taken.misread (hx : (s.pos p).Rest) : (s.modPos p (·.misread)).Taken p := by
  by_cases hr : Config.retryLimit ≤ (s.pos p).retry + 1
  · have heq : s.modPos p (·.misread) =
        (s.modPos p fun x => { x with retry := 0 }).modPos p (·.arriveRefused .unreadable) := by
      rw [State.modPos_modPos]
      exact State.modPos_congr (if_pos hr)
    have hx0 : ((s.modPos p fun x => { x with retry := 0 }).pos p).Rest := by
      rw [State.modPos_pos_self]
      exact hx.of_view rfl
    rw [heq]
    have h0 : (s.modPos p fun x => { x with retry := 0 }).Taken p := h.modPos_view rfl
    exact h0.arrive hx0 (hx0.arriveRefused _)
  · rw [State.modPos_congr (g := fun x => { x with retry := x.retry + 1 }) (if_neg hr)]
    exact h.modPos_view rfl

theorem State.Taken.identifyOutcome (o : OpOutcome) : (s.identifyOutcome p o).Taken p := by
  unfold State.identifyOutcome
  split
  · next hs =>
    have hx : (s.pos p).Rest := h.lawful.rest (by simp [hs, PosState.called]) (by simp [hs])
    split
    case h_1 r => exact h.identifyRead hx r
    case h_2 | h_3 =>
      split
      · exact h.misread hx
      · exact h
    all_goals exact h
  · exact h

/-- The outcome of an operation that had what it presupposes (R74 to R77). -/
theorem State.Taken.takeOutcome {op : EngineOp}
    (hpre : op.op ≠ .identify → 1 ≤ (s.pos p).debt ∧ (op.op = .burn → (s.pos p).doubt = none)) (o : OpOutcome) :
    (s.takeOutcome p op o).Taken p := by
  unfold State.takeOutcome
  split
  · exact h.identifyOutcome o
  · next hv => exact h.verifyOutcome (hpre (by simp [hv])).1 o
  · next hb =>
    obtain ⟨hd, hdo⟩ := hpre (by simp [hb])
    exact h.burnOutcome hd (hdo hb) op.before o

/-- The passing a withdrawal waited for (R119, R120, R130). -/
theorem State.Taken.passLost : (s.passLost p).Open p := by
  unfold State.passLost
  split
  · next hl =>
    obtain ⟨-, hres, hst⟩ := h.lawful.lost hl
    have hw : (s.pos p).waiting = false := by
      rw [Position.waiting, hres]
      simp
    split
    · next hs =>
      exact State.Good.opened (h.good.loseRecovery h.lawful (h.lawful.recovering hs hw).1 h.idle)
    · exact (h.good.passDebt_open h.lawful h.idle hw).1
  · next hl => exact ⟨h.good, h.lawful, fun hc => absurd hc hl, h.listed⟩

end

end Sys2Proof.Machine
end

section
/-!
PROOFS. Completions keep the laws: the operation ends at the engine and at the position, its outcome is taken, pending
allocations are applied, and the arbitrations follow. Changes of allocation and of engines keep them as well.
-/

namespace Sys2Proof.Machine

/-! ### Allocations -/

/-- A position that differs at most in what allocation moves (R107 to R111). -/
def Position.Reallocated (x y : Position) : Prop :=
  y = { x with
    allocation := y.allocation, changed := y.changed, relieved := y.relieved, pendingAlloc := y.pendingAlloc }

theorem Position.Reallocated.refl (x : Position) : x.Reallocated x := rfl

theorem Position.Reallocated.lawful {x y : Position} (h : x.Reallocated y) (hx : x.Lawful) : y.Lawful := by
  obtain ⟨a1, a2, a3, a4, a5, a6, a7, a8, a9, a10⟩ := hx
  rw [h]
  exact ⟨a1, a2, a3, a4, a5, a6, a7, a8, a9, a10⟩

theorem Position.Reallocated.settled {x y : Position} (h : x.Reallocated y) (hx : x.Settled) : y.Settled := by
  obtain ⟨a1, a2⟩ := hx
  rw [h]
  exact ⟨a1, a2⟩

/-- A state in which allocations alone have changed. -/
structure State.Reallocated (s t : State) : Prop where
  pos : ∀ q, (s.pos q).Reallocated (t.pos q)
  rest : t = { s with positions := t.positions }

theorem State.Reallocated.refl (s : State) : s.Reallocated s := ⟨fun _ => rfl, rfl⟩

theorem State.Reallocated.trans {s t u : State} (h1 : s.Reallocated t) (h2 : t.Reallocated u) : s.Reallocated u := by
  refine ⟨fun q => ?_, ?_⟩
  · have h3 := h1.pos q
    have h4 := h2.pos q
    rw [h3] at h4
    exact h4
  · have h3 := h2.rest
    rw [h1.rest] at h3
    exact h3

theorem State.reallocated_modPos {s : State} {p : PosId} {f : Position → Position}
    (h : (s.pos p).Reallocated (f (s.pos p))) : s.Reallocated (s.modPos p f) := by
  refine ⟨fun q => ?_, rfl⟩
  rw [State.modPos_pos]
  split
  · next hq => exact hq ▸ h
  · exact .refl _

theorem State.reallocated_mapPos {s : State} {f : PosId → Position → Position}
    (h : ∀ q, (s.pos q).Reallocated (f q (s.pos q))) : s.Reallocated (s.mapPos f) :=
  ⟨fun q => by rw [State.mapPos_pos]; exact h q, rfl⟩

theorem State.reallocated_relieveLane (s : State) (e : EngineId) : s.Reallocated (s.relieveLane e) := by
  unfold State.relieveLane
  split
  · refine State.reallocated_mapPos fun q => ?_
    split
    · exact rfl
    · exact .refl _
  · exact .refl s

theorem State.reallocated_setAllocation (s : State) (p : PosId) (a : Allocation) :
    s.Reallocated (s.setAllocation p a) := by
  have h1 : s.Reallocated (s.modPos p fun x => { x with allocation := a, changed := true }) :=
    State.reallocated_modPos rfl
  unfold State.setAllocation
  split
  · exact .refl s
  · dsimp only
    split
    · exact h1.trans (State.reallocated_modPos rfl)
    · exact h1

theorem State.reallocated_applyPending (s : State) (p : PosId) : s.Reallocated (s.applyPendingAllocation p) := by
  unfold State.applyPendingAllocation
  split
  · exact .refl s
  · have h1 : s.Reallocated (s.modPos p fun x => { x with pendingAlloc := none }) := State.reallocated_modPos rfl
    exact h1.trans (State.reallocated_setAllocation ..)

theorem State.reallocated_takeHome (s : State) (e : EngineId) : s.Reallocated (s.takeHome e) := by
  refine State.reallocated_mapPos fun q => ?_
  split
  · split <;> exact rfl
  · exact .refl _

section
variable {s t : State} (hr : s.Reallocated t)
include hr

theorem State.Reallocated.engines : t.engines = s.engines := by rw [hr.rest]
theorem State.Reallocated.tear : t.tear = s.tear := by rw [hr.rest]
theorem State.Reallocated.queue : t.queue = s.queue := by rw [hr.rest]
theorem State.Reallocated.acct : t.acct = s.acct := by rw [hr.rest]

theorem State.Reallocated.listed {q : PosId} (h : (s.pos q).waiting = true → s.listed (s.pos q) = true)
    (hw : (t.pos q).waiting = true) : t.listed (t.pos q) = true := by
  have hq := hr.pos q
  unfold State.listed State.tearEntry at *
  rw [hr.tear]
  rw [hq] at hw ⊢
  exact h hw

theorem State.CalmAt.reallocated {q : PosId} (h : s.CalmAt q) : t.CalmAt q :=
  ⟨(hr.pos q).lawful h.lawful, (hr.pos q).settled h.settled, hr.listed h.listed⟩

theorem State.Good.reallocated {p : PosId} {k : Word32} (h : s.Good .serving p k) : t.Good .serving p k :=
  h.of_steady (fun q hq => State.CalmAt.reallocated hr (h.others q hq)) (fun q => by rw [hr.pos q])
    (fun q => by rw [hr.pos q]) (fun q => by rw [hr.pos q]) hr.engines (by rw [hr.tear]) (Nat.le_of_eq (by rw [hr.queue]))
    (by rw [hr.acct]) (by rw [hr.acct]) (by rw [hr.acct])

theorem State.Open.reallocated {p : PosId} (h : s.Open p) : t.Open p := by
  have hp := hr.pos p
  refine ⟨h.good.reallocated hr, hp.lawful h.lawful, ?_, hr.listed h.listed⟩
  rw [hp]
  exact h.awaited

theorem State.Inv.reallocated (h : s.Inv) : t.Inv :=
  State.Good.inv (State.Good.reallocated hr (h.good 0)) (State.CalmAt.reallocated hr (h.calm 0))

end

/-! ### Engines -/

/-- Engines change, and still name their operations with the positions. -/
theorem State.Inv.engines {s t : State} (h : s.Inv) (hpos : t.positions = s.positions) (hagree : t.OperationsAgree)
    (htear : t.tear.entries = s.tear.entries) (hqueue : t.queue = s.queue) (htotals : t.acct.totals = s.acct.totals) :
    t.Inv := by
  have hp := State.pos_congr hpos
  refine State.Good.inv ((h.good 0).regrant (fun q _ => hp q) hagree (by rw [hp]) (by rw [hp]) htear hqueue htotals) ?_
  refine (h.calm 0).of_eq (hp 0) fun hl => ?_
  unfold State.listed State.tearEntry at *
  rwa [htear]

/-- One engine changes: its operation keeps its position and its kind, and its lane while it has one. -/
theorem State.OperationsAgree.modEng {s : State} (h : s.OperationsAgree) {e : EngineId} {f : Engine → Engine}
    (ho : (f (s.eng e)).op.map (fun o => (o.position, o.op)) = (s.eng e).op.map fun o => (o.position, o.op))
    (hl : (s.eng e).op ≠ none → (f (s.eng e)).lane = (s.eng e).lane) : (s.modEng e f).OperationsAgree := by
  refine h.of_same (fun _ => rfl) (fun d => ?_) fun d hd => ?_
  · rw [State.modEng_eng]
    split
    · next hde => exact hde ▸ ho
    · rfl
  · rw [State.modEng_eng]
    split
    · next hde => exact (hl (hde ▸ hd)).trans (by rw [hde])
    · rfl

theorem State.Inv.modEng {s : State} (h : s.Inv) {e : EngineId} {f : Engine → Engine}
    (ho : (f (s.eng e)).op.map (fun o => (o.position, o.op)) = (s.eng e).op.map fun o => (o.position, o.op))
    (hl : (s.eng e).op ≠ none → (f (s.eng e)).lane = (s.eng e).lane) : (s.modEng e f).Inv :=
  h.engines (t := s.modEng e f) rfl (h.agree.modEng ho hl) rfl rfl rfl

/-! ### Completions -/

/-- An operation is over at its engine and at its position, and names are agreed as before. -/
theorem State.OperationsAgree.over {s t : State} (h : s.OperationsAgree) {e : EngineId} {op : EngineOp}
    (hop : (s.eng e).op = some op) (he : (t.eng e).op = none) (hed : ∀ d, d ≠ e → t.eng d = s.eng d)
    (hp : (t.pos op.position).inFlight = none) (hpq : ∀ q, q ≠ op.position → t.pos q = s.pos q) :
    t.OperationsAgree := by
  obtain ⟨⟨f, hf, hfe, -⟩, -⟩ := h.1 e op hop
  constructor
  · intro d o ho
    have hd : d ≠ e := fun hde => by rw [hde, he] at ho; cases ho
    rw [hed d hd] at ho ⊢
    obtain ⟨⟨f', hf', hfe', hfo'⟩, hl⟩ := h.1 d o ho
    have hq : o.position ≠ op.position := by
      intro hpos
      rw [hpos, hf] at hf'
      cases hf'
      exact hd (hfe'.symm.trans hfe)
    rw [hpq _ hq]
    exact ⟨⟨f', hf', hfe', hfo'⟩, hl⟩
  · intro q f' hf'
    have hq : q ≠ op.position := fun hpos => by rw [hpos, hp] at hf'; cases hf'
    rw [hpq q hq] at hf'
    obtain ⟨o, ho, hopos, hok⟩ := h.2 q f' hf'
    have hd : f'.engine ≠ e := by
      intro hde
      rw [hde, hop] at ho
      cases ho
      exact hq hopos.symm
    exact ⟨o, by rw [hed _ hd]; exact ho, hopos, hok⟩

theorem Engine.due_op {g : Engine} {op : EngineOp} {o : OpOutcome} (h : g.due = some (op, o)) : g.op = some op := by
  unfold Engine.due at h
  split at h
  · cases h
  · next op' hop =>
    rw [hop]
    split at h
    · cases h; rfl
    · split at h
      · cases h; rfl
      all_goals cases h

/-- The operation of an engine is over: nothing is in flight at its position any more. -/
theorem State.Inv.over {s : State} (h : s.Inv) {e : EngineId} {op : EngineOp} (hop : (s.eng e).op = some op)
    {g : Engine → Engine} (hg : (g (s.eng e)).op = none) (c : EngineCounts → EngineCounts) :
    (((s.modEng e g).modCounts e c).modPos op.position fun x => { x with inFlight := none }).Taken op.position := by
  let t := ((s.modEng e g).modCounts e c).modPos op.position fun x => { x with inFlight := none }
  have hp : t.pos op.position = { s.pos op.position with inFlight := none } := State.modPos_pos_self ..
  have hpq (q : PosId) (hq : q ≠ op.position) : t.pos q = s.pos q := State.modPos_pos_ne _ hq _
  have hagree : t.OperationsAgree := by
    refine h.agree.over hop ?_ (fun d hd => ?_) (by rw [hp]) hpq
    · rw [show t.eng e = (s.modEng e g).eng e from rfl, State.modEng_eng_self]
      exact hg
    · exact s.modEng_eng_ne hd g
  obtain ⟨hlaw, -, hlist⟩ := h.calm op.position
  refine ⟨(h.good op.position).regrant hpq hagree (by rw [hp]) (by rw [hp]) rfl rfl rfl, ?_, fun hw => ?_, ?_⟩
  · change (t.pos op.position).Lawful
    obtain ⟨a1, a2, a3, a4, a5, a6, a7, a8, a9, -⟩ := hlaw
    rw [hp]
    exact ⟨a1, a2, a3, a4, a5, a6, a7, a8, a9, fun f hf => nomatch hf⟩
  · change (t.pos op.position).waiting = true at hw
    change t.listed (t.pos op.position) = true
    rw [hp] at hw ⊢
    exact hlist hw
  · change (t.pos op.position).inFlight = none
    rw [hp]

/-- The completion at the position (R89, R101, R119). -/
theorem State.Taken.completed {s : State} {p : PosId} {b : Bool} {op : EngineOp} (h : s.Taken p)
    (hpre : op.op ≠ .identify → 1 ≤ (s.pos p).debt ∧ (op.op = .burn → (s.pos p).doubt = none)) (o : OpOutcome) :
    ((((if b then s else s.takeOutcome p op o).passLost p).settle p).applyPendingAllocation p).Open p := by
  have h1 : (if b then s else s.takeOutcome p op o).Taken p := by
    split
    · exact h
    · exact h.takeOutcome hpre o
  exact h1.passLost.settle.reallocated (State.reallocated_applyPending ..)

/-- After the derivation the engine may keep its position for a further BURN (R105). -/
theorem State.Inv.burstOn {s : State} (h : s.Inv) (e : EngineId) (p : PosId) (o : OpOutcome) : (s.burstOn e p o).Inv := by
  have hreset : (s.modEng e fun g => { g with burst := 0 }).Inv := h.modEng rfl fun _ => rfl
  unfold State.burstOn
  split
  case h_1 =>
    split
    · next hc =>
      simp only [State.continues, Bool.and_eq_true, decide_eq_true_eq] at hc
      obtain ⟨⟨⟨⟨hop, -⟩, -⟩, -⟩, hfree⟩ := hc
      exact h.grant hfree hop _ _
    · exact hreset
  all_goals exact hreset

/-- The completion of an operation in flight (R89). -/
theorem State.Inv.complete {s : State} (h : s.Inv) {e : EngineId} {op : EngineOp} (hop : (s.eng e).op = some op)
    (o : OpOutcome) : (s.complete e op o).Laws := by
  obtain ⟨⟨f, hf, -, hfo⟩, -⟩ := h.agree.1 e op hop
  have hrun := (h.calm op.position).lawful.running f hf
  have ht := h.over hop (g := Engine.complete o) rfl (·.completed o)
  have hopen := ht.completed (b := (s.pos op.position).discarding) (op := op) (fun hn => by
    rw [State.modPos_pos_self]
    obtain ⟨-, hd, hb, -⟩ := hrun.2 (by rw [hfo]; exact hn)
    exact ⟨hd, fun hbo => hb (hfo.trans hbo)⟩) o
  refine State.Inv.serve (State.Inv.burstOn (State.Open.derive ?_) e op.position o)
  split
  · exact State.Open.reallocated (State.reallocated_relieveLane ..) hopen
  · exact hopen

theorem State.Laws.completeKind {s : State} (h : s.Laws) (e : EngineId) (kind : CardOp) :
    (s.completeKind e kind).Laws := by
  unfold State.completeKind
  split
  · exact h
  · next op o hd =>
    split
    · exact h.inv.complete (Engine.due_op hd) o
    · exact h

end Sys2Proof.Machine
end

section
/-!
PROOFS. Charging, supervision and the requests on positions keep the laws.
-/

namespace Sys2Proof.Machine

/-! ### Changes the laws do not see -/

theorem State.Served.mono {s t : State} (h : s.Served) (he : ∀ e, (t.eng e).free = true → (s.eng e).free = true)
    (hp : ∀ q, (t.pos q).pendingOp.isSome = true →
      (s.pos q).pendingOp.isSome = true ∧ (s.pos q).allocation = (t.pos q).allocation) : t.Served :=
  fun e => (h e).mono (he e) hp

theorem State.Laws.of_view {s t : State} (h : s.Laws) (hv : ∀ q, (t.pos q).view = (s.pos q).view)
    (heng : t.engines = s.engines) (htear : t.tear.entries = s.tear.entries)
    (hqueue : t.queue.records.length ≤ s.queue.records.length)
    (hc : t.acct.totals.charged = s.acct.totals.charged) (hb : t.acct.totals.burned = s.acct.totals.burned)
    (hw : t.acct.totals.writtenOff = s.acct.totals.writtenOff) : t.Laws := by
  refine ⟨State.Good.inv ((h.inv.good 0).of_view hv heng htear hqueue hc hb hw) ((h.inv.calm 0).of_view (hv 0) htear),
    h.served.mono (fun e hf => by rwa [State.eng_congr heng] at hf) fun q hq => ?_⟩
  have hq' := hv q
  simp only [Position.view, Prod.mk.injEq] at hq'
  obtain ⟨-, -, -, -, -, -, -, -, -, h10, h11, -⟩ := hq'
  exact ⟨h10 ▸ hq, h11.symm⟩

/-- A change outside positions, engines, tear list, queue and totals. -/
theorem State.Laws.frame {s t : State} (h : s.Laws) (hpos : t.positions = s.positions) (heng : t.engines = s.engines)
    (htear : t.tear = s.tear) (hqueue : t.queue = s.queue) (ha : t.acct.totals = s.acct.totals) : t.Laws :=
  h.of_view (fun q => by rw [State.pos_congr hpos q]) heng (by rw [htear]) (Nat.le_of_eq (by rw [hqueue])) (by rw [ha]) (by rw [ha])
    (by rw [ha])

theorem State.Laws.modPos_view {s : State} (h : s.Laws) {p : PosId} {f : Position → Position}
    (hv : (f (s.pos p)).view = (s.pos p).view) : (s.modPos p f).Laws := by
  refine h.of_view (fun q => ?_) rfl rfl (Nat.le_refl _) rfl rfl rfl
  rw [State.modPos_pos]
  split
  · next hq => rw [hq]; exact hv
  · rfl

theorem State.Laws.mapPos_view {s : State} (h : s.Laws) {f : PosId → Position → Position}
    (hv : ∀ q, (f q (s.pos q)).view = (s.pos q).view) : (s.mapPos f).Laws :=
  h.of_view (fun q => by rw [State.mapPos_pos]; exact hv q) (s.mapPos_engines f) (by rw [State.mapPos_tear])
    (Nat.le_of_eq (by rw [State.mapPos_queue])) (by rw [State.mapPos_acct]) (by rw [State.mapPos_acct]) (by rw [State.mapPos_acct])

theorem State.Laws.modEng {s : State} (h : s.Laws) {e : EngineId} {f : Engine → Engine}
    (ho : (f (s.eng e)).op.map (fun o => (o.position, o.op)) = (s.eng e).op.map fun o => (o.position, o.op))
    (hl : (s.eng e).op ≠ none → (f (s.eng e)).lane = (s.eng e).lane)
    (hf : (f (s.eng e)).free = true → (s.eng e).free = true) : (s.modEng e f).Laws := by
  refine ⟨h.inv.modEng ho hl, h.served.mono (fun d hd => ?_) fun q hq => ⟨hq, rfl⟩⟩
  rw [State.modEng_eng] at hd
  split at hd
  · next hde => exact hde ▸ hf hd
  · exact hd

/-- Changes of a call that leave its tariff are not seen. -/
theorem Position.mapCall_view {f : Call → Call} (hf : ∀ c, (f c).tariff = c.tariff) (x : Position) :
    (x.mapCall f).view = x.view := by
  unfold Position.mapCall Position.view Position.step
  cases hc : x.call with
  | none => rfl
  | some c => simp [hf]

/-! ### Metering -/

theorem Position.Running.mono {x y : Position} {f : InFlight} (h : x.Running f) (hp : y.pendingOp = x.pendingOp)
    (hdo : y.doubt = x.doubt) (hd : x.debt ≤ y.debt) : y.Running f := by
  obtain ⟨h1, h2⟩ := h
  unfold Position.Running
  rw [hp, hdo]
  exact ⟨h1, fun hn => ⟨(h2 hn).1, Nat.le_trans (h2 hn).2.1 hd, (h2 hn).2.2⟩⟩

theorem State.charge_pos (s : State) (p : PosId) (n : Nat) : (s.charge p n).pos p = (s.pos p).charged n := by
  rw [State.charge_def, State.reportCharged_pos, State.modPos_pos_self]

/-- A charge that the ceiling and the card allow. -/
theorem Position.Metering.charged {x : Position} (h : x.Metering) {n : Nat} (h7 : x.debt + n ≤ 7)
    (hr : x.debt + n ≤ x.remaining) : (x.charged n).Metering := by
  obtain ⟨hs, -, -, hid, hdo, hc, hrec, hres, hl, hrun⟩ := h
  refine ⟨hs, h7, hr, hid, fun hn => Nat.le_trans (hdo hn) (Nat.le_add_right _ n), ?_, hrec, hres, hl, fun f hf =>
    (hrun f hf).mono rfl rfl (Nat.le_add_right _ n)⟩
  simpa [Position.charged, Position.mapCall] using hc

theorem Position.Metering.mapCall {x : Position} (h : x.Metering) (f : Call → Call) : (x.mapCall f).Metering := by
  obtain ⟨hs, h7, hr, hid, hdo, hc, hrec, hres, hl, hrun⟩ := h
  exact ⟨hs, h7, hr, hid, hdo, by simpa [Position.mapCall] using hc, hrec, hres, hl, hrun⟩

theorem Position.reload_fields (x : Position) :
    x.reload.inFlight = x.inFlight ∧ x.reload.debt = x.debt ∧ x.reload.reservation = x.reservation := by
  unfold Position.reload
  split <;> exact ⟨rfl, rfl, rfl⟩

theorem Position.Metering.reload {x : Position} (h : x.Metering) : x.reload.Metering := by
  obtain ⟨hs, h7, hr, hid, hdo, hc, hrec, hres, hl, hrun⟩ := h
  unfold Position.reload
  split <;> exact ⟨hs, h7, hr, hid, hdo, hc, hrec, hres, hl, hrun⟩

/-- The last-unit test leaves a position that meters in METERING or LAST_UNIT. -/
theorem Position.Metering.lastUnitTest_state {x : Position} (h : x.Metering) :
    x.lastUnitTest.state = .metering ∨ x.lastUnitTest.state = .lastUnit := by
  unfold Position.lastUnitTest
  split
  · exact h.state
  · split
    · exact .inr rfl
    · exact h.state

/-- A change that leaves the event's position metering, and the last-unit test after it (R70). -/
theorem State.Good.meters {s : State} {p : PosId} (h : s.Good .serving p 0) {f : Position → Position}
    (hx : (f (s.pos p)).Metering) (hf : (f (s.pos p)).inFlight = (s.pos p).inFlight)
    (hd : (f (s.pos p)).debt = (s.pos p).debt) (hr : (f (s.pos p)).reservation = (s.pos p).reservation) :
    (s.modPos p fun x => (f x).lastUnitTest).Open p := by
  obtain ⟨h1, h2, h3, h4⟩ := (f (s.pos p)).lastUnitTest_fields
  refine ⟨h.modPos (h1.trans hf) (h2.trans hd) (by rw [h3, hr]; exact id), ?_, fun hl => ?_, fun hw => ?_⟩
  · rw [State.modPos_pos_self]
    exact hx.lastUnitTest
  · rw [State.modPos_pos_self, h4, hx.cardLost] at hl
    cases hl
  · rw [State.modPos_pos_self, Position.waiting_iff] at hw
    rcases hx.lastUnitTest_state with hs | hs <;> exact absurd (hs.symm.trans hw.1) nofun

theorem Position.Metering.startMetering {x : Position} (h : x.Metering) (period : Nat) :
    (x.startMetering period).Metering := by
  obtain ⟨-, h7, hr, hid, hdo, hc, hrec, hres, hl, hrun⟩ := h
  exact ⟨.inl rfl, h7, hr, hid, hdo, hc, hrec, hres, hl, hrun⟩

/-- A call in a lawful position is charged and metered (R67). -/
theorem Position.Lawful.answered {x : Position} (h : x.Lawful) (hin : x.state.inCall = true) (f : Call → Call)
    {n : Nat} (period : Nat) (h1 : n ≤ x.remaining - x.debt) (h2 : n ≤ 7 - x.debt) :
    (((x.mapCall f).charged n).startMetering period).Metering := by
  obtain ⟨hcall, hres, hlost, hrec⟩ := h.inCall hin
  have hceil := h.ceiling
  have hcov := h.covered
  let y : Position := { x with state := .lastUnit }
  have hy : y.Metering :=
    ⟨.inr rfl, hceil, hcov, h.cardless, h.doubted, hcall, hrec, hres, hlost, h.running⟩
  have hm : ((y.mapCall f).charged n).Metering := (hy.mapCall f).charged
    (show x.debt + n ≤ 7 by omega) (show x.debt + n ≤ x.remaining by omega)
  exact hm.startMetering period

/-- The answer procedure for a usable entry (R54, R67). -/
theorem State.Good.answered {s : State} {p : PosId} (h : s.Good .serving p 0) (hx : (s.pos p).Lawful)
    (hin : (s.pos p).state.inCall = true) (f : Call → Call) (e : TariffEntry) :
    State.Open p
      ((((s.modPos p (·.mapCall f)).charge p (answerCharge e ((s.modPos p (·.mapCall f)).pos p))).modPos p fun x =>
        (x.startMetering e.period.toNat).lastUnitTest).modTotals
          fun t => { t with answered := advance t.answered 1 }) := by
  have hp : (s.modPos p (·.mapCall f)).pos p = (s.pos p).mapCall f := State.modPos_pos_self ..
  have hg : (s.modPos p (·.mapCall f)).Good .serving p 0 := h.modPos rfl rfl id
  rw [hp]
  generalize hn : answerCharge e ((s.pos p).mapCall f) = n
  have hle : n ≤ (s.pos p).remaining - (s.pos p).debt ∧ n ≤ 7 - (s.pos p).debt := by
    rw [← hn]
    simp only [answerCharge, Config.debtCeiling, Position.mapCall]
    omega
  have hm := hx.answered hin f e.period.toNat hle.1 hle.2
  have ho : (((s.modPos p (·.mapCall f)).charge p n).modPos p fun x =>
      (x.startMetering e.period.toNat).lastUnitTest).Open p :=
    (hg.charge n).meters (f := (·.startMetering e.period.toNat)) (by rw [State.charge_pos, hp]; exact hm) rfl rfl rfl
  exact ho.frame rfl rfl rfl rfl rfl rfl rfl

/-- ANSWER in ROUTED (R29, R54, R67). -/
theorem State.Open.answerCall {s : State} {p : PosId} (h : s.Open p) (hs : (s.pos p).state = .routed) :
    (s.answerCall p).Open p := by
  have h1 : (s.modPos p (·.mapCall fun c => { c with answer := some s.link.stamp })).Open p :=
    h.modPos_view (Position.mapCall_view (f := fun c => { c with answer := some s.link.stamp }) (fun _ => rfl) _)
  unfold State.answerCall
  dsimp only
  split
  · exact h
  · next c hc =>
    split
    · have hin : ((s.modPos p (·.mapCall fun c => { c with answer := some s.link.stamp })).pos p).state.inCall := by
        rw [State.modPos_pos_self, Position.mapCall, hs]
        rfl
      exact h1.good.answered h1.lawful hin ..
    · refine h1.endCall ?_ .tariffUndefined
      rw [State.modPos_pos_self]
      simp [Position.mapCall, hs, PosState.inCall]

/-- A unit expiry in METERING (R68, R69). -/
theorem State.Open.meteringExpiry {s : State} {p : PosId} (h : s.Open p) (hs : (s.pos p).state = .metering) :
    (s.meteringExpiry p).Open p := by
  have hx := h.lawful.metering (.inl hs)
  unfold State.meteringExpiry
  split
  · exact h
  · next c hc =>
    split
    · exact h
    · next k hk =>
      have hstep : (s.pos p).step = some k.step := by simp [Position.step, hc, hk]
      have hroom := h.lawful.metered hs k.step hstep
      have hceil := h.lawful.ceiling
      have hcharged (n : Nat) (hn : n ≤ min k.step (7 - (s.pos p).debt)) : ((s.charge p n).pos p).Metering := by
        rw [State.charge_pos]
        exact hx.charged (by omega) (by omega)
      dsimp only
      split
      · have hg : ((s.charge p (min k.step (Config.debtCeiling - (s.pos p).debt))).modGlobal fun g =>
            { g with
              debtLimits := saturate g.debtLimits 1
              forgone := saturate g.forgone (k.step - min k.step (Config.debtCeiling - (s.pos p).debt)) }).Good
              .serving p 0 := (h.good.charge _).frame rfl rfl rfl (Nat.le_refl _) rfl rfl rfl
        exact (hg.endMetering (hcharged _ (Nat.le_refl _)) .debtLimit).1
      · have hm := hcharged (min k.step (Config.debtCeiling - (s.pos p).debt)) (Nat.le_refl _)
        obtain ⟨h1, h2, h3⟩ := Position.reload_fields ((s.charge p
          (min k.step (Config.debtCeiling - (s.pos p).debt))).pos p)
        split
        · unfold State.recopy
          rw [State.modPos_modPos]
          obtain ⟨h1, h2, h3⟩ := Position.reload_fields (((s.charge p
            (min k.step (Config.debtCeiling - (s.pos p).debt))).pos p).mapCall fun c => c.recopy
              (((s.charge p (min k.step (Config.debtCeiling - (s.pos p).debt)))).tariff.lookup c.cls)
              ((s.charge p (min k.step (Config.debtCeiling - (s.pos p).debt)))).tariff.band
              ((s.charge p (min k.step (Config.debtCeiling - (s.pos p).debt)))).tariff.edition)
          exact (h.good.charge _).meters (hm.mapCall _).reload h1 h2 h3
        · exact (h.good.charge _).meters hm.reload h1 h2 h3

/-- The one unit expiry in LAST_UNIT (R71). -/
theorem State.Open.lastUnitExpiry {s : State} {p : PosId} (h : s.Open p) (hs : (s.pos p).state = .lastUnit) :
    (s.lastUnitExpiry p).Open p := by
  have hx := h.lawful.metering (.inr hs)
  have hceil := h.lawful.ceiling
  have hcov := h.lawful.covered
  unfold State.lastUnitExpiry
  split
  · exact h
  · next n _ =>
    refine ((h.good.charge _).endMetering ?_ .exhausted).1
    have hle : lastCharge n (s.pos p) ≤ (s.pos p).remaining - (s.pos p).debt ∧
        lastCharge n (s.pos p) ≤ 7 - (s.pos p).debt := by
      simp only [lastCharge, Config.debtCeiling]
      omega
    rw [State.charge_pos]
    exact hx.charged (by omega) (by omega)

/-! ### Supervision -/

/-- A sample that is not accepted leaves the accepted value (R3). -/
theorem Input.sample_rejected {α : Type} [DecidableEq α] {depth : Nat} {v : α} {i : Input α}
    (h : (i.sample depth v).2 = false) : (i.sample depth v).1.accepted = i.accepted := by
  unfold Input.sample at h ⊢
  by_cases h1 : i.accepted = some v
  · rw [if_pos h1]
  · rw [if_neg h1] at h ⊢
    dsimp only at h ⊢
    by_cases hd : depth ≤ if i.last = some v then i.run + 1 else 1
    · rw [if_pos hd] at h
      cases h
    · rw [if_neg hd]

theorem Position.Lawful.withCard {x : Position} (h : x.Lawful) (i : Input CardLevel) :
    Position.Lawful { x with card := i } := by
  obtain ⟨a1, a2, a3, a4, a5, a6, a7, a8, a9, a10⟩ := h
  exact ⟨a1, a2, a3, a4, a5, a6, a7, a8, a9, a10⟩

theorem State.Open.cardAccepted {s : State} {p : PosId} (h : s.Open p) (previous : Option CardLevel) (v : CardLevel) :
    (s.cardAccepted p previous v).Open p := by
  cases v with
  | present =>
    change (s.insertion p).Open p
    unfold State.insertion
    split
    · next hs =>
      simp only [Bool.and_eq_true, decide_eq_true_eq] at hs
      have hx : (s.pos p).Rest := h.lawful.rest (by simp [hs.1, PosState.called]) (by simp [hs.1])
      exact h.arrive hx hx.startReading
    · exact h
  | absent =>
    change (if previous = some .present then s.cardLeaves p else s).Open p
    split
    · exact h.cardLeaves.1
    · exact h

theorem State.Open.hookAccepted {s : State} {p : PosId} (h : s.Open p) (v : HookLevel) : (s.hookAccepted p v).Open p := by
  have h1 : (s.modPos p fun x => { x with changed := true }).Open p := h.modPos_view rfl
  unfold State.hookAccepted
  dsimp only
  split
  · next hc =>
    simp only [Bool.and_eq_true] at hc
    exact h1.endCall (by rw [State.modPos_pos_self]; exact hc.2) .hungUp
  · exact h1

theorem State.Open.lineAccepted {s : State} {p : PosId} (h : s.Open p) (v : LineCode) : (s.lineAccepted p v).Open p := by
  unfold State.lineAccepted
  split
  · exact h
  · split
    · exact h.modPos_view rfl
    · exact h
  · split
    · next hs => exact h.answerCall hs
    · split
      · exact h.modPos_view (Position.mapCall_view (f := Call.answerFree s.link.stamp) (fun _ => rfl) _)
      · exact h
  · split
    · next hs => exact h.endCall hs .farEnd
    · exact h

theorem State.Laws.sample {s : State} (h : s.Laws) (p : PosId) (v : Sample) : (s.sample p v).Laws := by
  have ho := h.inv.opened p
  cases v with
  | hook v =>
    refine iteInduction (fun _ => ?_) fun _ => h.modPos_view rfl
    exact State.Open.conclude (State.Open.hookAccepted (ho.modPos_view rfl) v)
  | card v =>
    refine iteInduction (fun _ => ?_) fun hr => h.modPos_view ?_
    · exact State.Open.conclude (State.Open.cardAccepted
        (ho.modPos (ho.lawful.withCard _) rfl rfl rfl ho.awaited fun hw => ⟨hw, rfl⟩) _ v)
    · simp only [Position.view, Input.sample_rejected (Bool.not_eq_true _ ▸ hr), Position.step]
  | line v =>
    refine iteInduction (fun _ => ?_) fun _ => h.modPos_view rfl
    exact State.Open.conclude (State.Open.lineAccepted (ho.modPos_view rfl) v)

/-! ### ROUTE -/

@[simp] theorem accept_fst (s : State) : (accept s).1 = s := rfl

@[simp] theorem refuse_fst (s : State) (code : RefusalCode) : (refuse s code).1 = s := rfl

/-- A position in a call that has just been set up (R27, R28). -/
def Position.inNewCall (st : PosState) (c : Call) (o : OneShot) (x : Position) : Position :=
  { (x.enter st) with reservation := true, call := some c, oneShot := o }

theorem startCharged_eq (p : PosId) (cls : Fin 16) (s : State) :
    startCharged p cls s = s.modPos p fun x =>
      (x.inNewCall .routed (.start .call cls s.link.stamp)
        { kind := .answerWait, count := s.settings.answerWait * 100 }).derive := rfl

theorem startFree_eq (p : PosId) (cls : Fin 16) (s : State) :
    startFree p cls s = (s.modPos p fun x =>
      (x.inNewCall .freeCall (.start .free cls s.link.stamp) x.oneShot.stop).derive).modTotals
        fun t => { t with freeCalls := advance t.freeCalls 1 } := rfl

/-- A call set up at a position at rest needs no operation, and has none pending. -/
theorem Position.Rest.inNewCall {x : Position} (h : x.Rest) {st : PosState} (hs : st = .routed ∨ st = .freeCall)
    (c : Call) (o : OneShot) :
    (x.inNewCall st c o).derive.Lawful ∧ (x.inNewCall st c o).derive.Settled ∧
      (x.inNewCall st c o).derive.pendingOp = none ∧ (x.inNewCall st c o).derive.waiting = false ∧
      (x.inNewCall st c o).derive.inFlight = x.inFlight ∧ (x.inNewCall st c o).derive.debt = x.debt := by
  have hlaw : (x.inNewCall st c o).Lawful := h.lawful_of_start hs rfl rfl rfl rfl rfl rfl rfl rfl rfl rfl
  have hd : (x.inNewCall st c o).derived = none := by
    unfold Position.derived
    rw [if_neg, if_neg, if_neg]
    · simp [Position.inNewCall, Position.enter, h.debt]
    · simp [Position.inNewCall, Position.enter, h.doubt]
    · rcases hs with rfl | rfl <;> simp [Position.inNewCall, Position.enter]
  obtain ⟨h1, h2⟩ := hlaw.derive fun hl => absurd (h.cardLost.symm.trans hl) nofun
  refine ⟨h1, h2, ?_⟩
  unfold Position.derive
  split
  · next hf =>
    obtain ⟨f, hf⟩ := Option.isSome_iff_exists.mp hf
    exact ⟨(hlaw.running f hf).1, by rw [Position.waiting]; simp [Position.inNewCall], rfl, rfl⟩
  · exact ⟨hd, by rw [Position.waiting]; simp [Position.inNewCall], rfl, rfl⟩

theorem State.Laws.startCall {s : State} (h : s.Laws) {p : PosId} (hx : (s.pos p).Rest) (ha : s.admits = true)
    {f : Position → Position} {st : PosState} (hs : st = .routed ∨ st = .freeCall) (c : Call) (o : OneShot)
    (hf : f (s.pos p) = ((s.pos p).inNewCall st c o).derive) : (s.modPos p f).Laws := by
  obtain ⟨h1, h2, h3, h4, h5, h6⟩ := hx.inNewCall hs c o
  rw [← hf] at h1 h2 h3 h4 h5 h6
  have hp : (s.modPos p f).pos p = f (s.pos p) := State.modPos_pos_self ..
  refine ⟨State.Good.inv ((h.inv.good p).claim h5 h6 (s.admits_iff.mp ha)) ⟨by rw [hp]; exact h1, by rw [hp]; exact h2,
    fun hw => ?_⟩, h.served.mono (fun _ => id) fun q hq => ?_⟩
  · rw [hp, h4] at hw
    cases hw
  · rw [State.modPos_pos] at hq ⊢
    split at hq
    · rw [h3] at hq
      cases hq
    · next hne =>
      rw [if_neg hne]
      exact ⟨hq, rfl⟩

/-- What a ROUTE that no test refuses has found (R26). -/
theorem routeRefusal_none {s : State} {p : PosId} {c : Fin 16} (h : routeRefusal p c s = none) :
    ((s.pos p).state = .ready ∨ (s.pos p).state = .vacant) ∧ s.admits = true := by
  unfold routeRefusal at h
  dsimp only at h
  split at h
  · cases h
  split at h
  · cases h
  next hst =>
  split at h
  · cases h
  split at h
  · cases h
  split at h
  · cases h
  split at h
  · cases h
  next hadm =>
  simp only [Bool.not_eq_true', Bool.not_eq_false, Bool.or_eq_true, Bool.and_eq_true, decide_eq_true_eq] at hst hadm
  exact ⟨hst.imp_right And.right, hadm⟩

theorem State.Laws.route {s : State} (h : s.Laws) (cls : Byte) (p : PosId) : (routeRule cls p s).1.Laws := by
  unfold routeRule
  split
  · exact h
  · split
    · exact h
    · next hr =>
      obtain ⟨hst, ha⟩ := routeRefusal_none hr
      have hx : (s.pos p).Rest := by
        refine (h.inv.calm p).lawful.rest ?_ ?_ <;> rcases hst with hs | hs <;> simp [hs, PosState.called]
      refine iteInduction (fun _ => ?_) fun _ => ?_
      · rw [startFree_eq]
        exact State.Laws.of_view (h.startCall hx ha (.inr rfl) _ _ rfl) (fun _ => rfl) rfl rfl (Nat.le_refl _) rfl rfl rfl
      · rw [startCharged_eq]
        exact h.startCall hx ha (.inl rfl) _ _ rfl

/-! ### RELEASE, BLOCK, UNBLOCK, ALLOCATE -/

theorem State.Laws.release {s : State} (h : s.Laws) (p : PosId) : (releaseRule p s).1.Laws := by
  unfold releaseRule
  split
  · next hs =>
    rw [accept_fst]
    exact ((h.inv.opened p).endCall hs .host).conclude
  · split
    · exact h
    · exact h

theorem State.Laws.block {s : State} (h : s.Laws) (p : PosId) : (s.blockPosition p).Laws := by
  have ho := h.inv.opened p
  have hpend : (s.modPos p (·.setBlockPending)).Open p := ho.modPos_view rfl
  have hrest (hs : (s.pos p).state ∈ [.vacant, .ready, .refused]) : ((s.modPos p (·.arriveBlocked)).conclude p).Laws := by
    simp only [List.mem_cons, List.not_mem_nil, or_false] at hs
    have hx : (s.pos p).Rest := by
      refine ho.lawful.rest ?_ ?_ <;> rcases hs with hs | hs | hs <;> simp [hs, PosState.called]
    exact (ho.arrive hx hx.arriveBlocked).conclude
  have hcall (hs : (s.pos p).state.inCall = true) :
      (((s.modPos p (·.setBlockPending)).endCall p .blocked).conclude p).Laws :=
    (hpend.endCall (by rw [State.modPos_pos_self]; exact hs) .blocked).conclude
  unfold State.blockPosition
  split
  case h_1 hs | h_2 hs | h_3 hs => exact hrest (by simp [hs])
  case h_4 | h_5 => exact h.modPos_view rfl
  case h_6 hs | h_7 hs | h_8 hs | h_9 hs => exact hcall (by simp [hs, PosState.inCall])
  case h_10 => exact hpend.conclude
  case h_11 => exact h

theorem State.Laws.unblock {s : State} (h : s.Laws) (p : PosId) : (unblockRule p s).1.Laws := by
  have ho := h.inv.opened p
  unfold unblockRule
  split
  · next hs =>
    have hx : (s.pos p).Rest := ho.lawful.rest (by simp [hs.1, PosState.called]) (by simp [hs.1])
    rw [accept_fst]
    refine (ho.arrive hx ?_).conclude
    unfold Position.unblock
    split
    · exact hx.startReading
    · exact ⟨hx.enter .vacant, id, nofun, rfl, rfl, rfl, rfl⟩
  · exact h

theorem State.Laws.allocate {s : State} (h : s.Laws) (p : PosId) (a : Allocation) : (s.allocate p a).Laws := by
  have h1 : (s.modPos p fun x => { x with relieved := false }).Laws := h.modPos_view rfl
  unfold State.allocate
  dsimp only
  split
  · exact h1.modPos_view rfl
  · exact (h1.inv.reallocated (State.reallocated_setAllocation ..)).serve

/-! ### Requests on engines -/

theorem State.Laws.laneMode {s : State} (h : s.Laws) (e : EngineId) (m : OrderMode) (len : Nat) (auto : Bool) :
    (setLaneMode e m len auto s).Laws := by
  have h1 : (s.modEng e (·.setMode e m len auto)).Laws := h.modEng rfl (fun _ => rfl) id
  unfold setLaneMode
  dsimp only
  split
  · exact (h1.inv.reallocated (State.reallocated_relieveLane ..)).serve
  · exact h1

/-- An engine whose lane is not in service or suspect runs no operation (R90). -/
theorem State.Inv.op_none {s : State} (h : s.Inv) {e : EngineId} (hl : (s.eng e).lane ∉ [.inService, .suspect]) :
    (s.eng e).op = none := by
  refine Classical.byContradiction fun hne => ?_
  obtain ⟨op, hop⟩ := Option.ne_none_iff_exists'.mp hne
  exact hl (h.agree.1 e op hop).2

theorem State.Laws.laneDisable {s : State} (h : s.Laws) (e : EngineId) : (s.modEng e (·.disable)).Laws := by
  have hop (hl : (s.eng e).lane ∉ [.inService, .suspect]) := h.inv.op_none hl
  refine h.modEng ?_ ?_ ?_
  · unfold Engine.disable
    split
    case h_3 | h_4 => split <;> rfl
    all_goals rfl
  · intro hne
    unfold Engine.disable
    split
    case h_1 hs | h_2 hs => exact absurd (hop (by simp [hs])) hne
    case h_3 | h_4 =>
      split
      · rfl
      · next hf => exact absurd (by simpa using hf) hne
    case h_5 => rfl
  · intro hf
    rw [Engine.free_iff] at hf
    obtain ⟨h1, h2, h3⟩ := hf
    unfold Engine.disable at h1 h2
    split at h1
    case h_1 | h_2 => simp [Engine.leaveTest] at h1
    case h_3 hs | h_4 hs =>
      split at h1
      · next ho => rw [hs, if_pos ho] at h2; cases h2
      · simp [Engine.leaveTest] at h1
    case h_5 hs => simp [hs] at h1

theorem State.Laws.startTest {s : State} (h : s.Laws) {e : EngineId} (hl : (s.eng e).lane ∉ [.inService, .suspect]) :
    (s.modEng e (·.startTest)).Laws :=
  h.modEng rfl (fun hne => absurd (h.inv.op_none hl) hne) fun hf => absurd ((Engine.free_iff _).mp hf).1
    (by simp [Engine.startTest])

theorem State.Laws.busStep {s : State} (h : s.Laws) (e : EngineId) (next : EngineOp → Option BusStep) :
    (s.busStep e next).Laws := by
  unfold State.busStep
  split
  · exact h
  · next o ho =>
    split
    · exact h
    · split
      · exact h
      · exact h.modEng (by rw [ho]; rfl) (fun _ => rfl) fun hf => by
          obtain ⟨-, -, hn⟩ := (Engine.free_iff _).mp hf
          cases hn

theorem State.Laws.busTestEnd {s : State} (h : s.Laws) (e : EngineId) (pass : Bool)
    (hl : (s.eng e).lane = .testing) :
    (if pass then ((s.modEng e (·.leaveTest .inService)).takeHome e).serve
      else ((s.modEng e (·.leaveTest .faulted)).relieveLane e).serve).Laws := by
  have hop := h.inv.op_none (e := e) (by simp [hl])
  have hleave (l : LaneState) : (s.modEng e (·.leaveTest l)).Inv := h.inv.modEng rfl fun hne => absurd hop hne
  split
  · exact ((hleave _).reallocated (State.reallocated_takeHome ..)).serve
  · exact ((hleave _).reallocated (State.reallocated_relieveLane ..)).serve

/-! ### Records and the tear list -/

/-- A freed place is offered to the lowest that waits (R141). -/
theorem State.Laws.offerPlace {s : State} (h : s.Laws) (hroom : s.queue.records.length + s.reservations < 64) :
    s.offerPlace.Laws := by
  unfold State.offerPlace
  split
  · exact h
  · next p ps hw =>
    have hwait : (s.pos p).waiting = true := by
      have : p ∈ s.waitSet := by rw [hw]; exact List.mem_cons_self
      simpa [State.waitSet] using (List.mem_filter.mp this).2
    have hc := h.inv.calm p
    exact State.Open.conclude (State.Good.opened ((h.inv.good p).admitRecovery (hc.lawful.rest_of_waiting hwait)
      ((Position.waiting_iff _).mp hwait).1 hroom (hc.listed hwait)))

theorem State.Laws.recordRelease {s : State} (h : s.Laws) (seq : Word16) : (recordReleaseRule seq s).1.Laws := by
  unfold recordReleaseRule
  split
  · exact h
  · next r rest hr =>
    split
    · have hlen : s.queue.records.length = rest.length + 1 := by rw [hr]; rfl
      refine State.Laws.offerPlace (h.of_view (t := s.modQueue fun q => { q with records := rest }) (fun _ => rfl) rfl rfl
        (by change rest.length ≤ _; omega) rfl rfl rfl) ?_
      have := h.inv.room
      change rest.length + s.reservations < 64
      omega
    · exact h

theorem State.Laws.tearDelete {s : State} (h : s.Laws) (series : Word16) (serial : Word32) :
    (tearDeleteRule series serial s).1.Laws := by
  unfold tearDeleteRule
  dsimp only
  split
  · exact h
  · next t ht =>
    have hk := State.tearEntry_key ht
    let k : CardKey := { series := series, serial := serial }
    let u := ((s.modTear (·.remove k)).reportWrittenOff t.total).releaseWaiters k
    change u.Laws
    have hu : u = ((s.modTear (·.remove k)).reportWrittenOff t.total).mapPos fun _ x => x.released k :=
      State.releaseWaiters_eq _ k
    have hp (q : PosId) : u.pos q = (s.pos q).released k := by rw [hu, State.mapPos_pos]; rfl
    have hfields (q : PosId) := Position.released_fields (h.inv.calm q).lawful.rest_of_waiting k
    obtain ⟨h1, h2, h3, -, -⟩ := hfields 0
    have htear : u.tear.entries = s.tear.entries.filter fun x => x.key ≠ k := by rw [hu, State.mapPos_tear]; rfl
    have heng : u.engines = s.engines := by rw [hu, State.mapPos_engines]; rfl
    have hqueue : u.queue = s.queue := by rw [hu, State.mapPos_queue]; rfl
    have hacct : u.acct.totals = { s.acct.totals with writtenOff := advance s.acct.totals.writtenOff t.total } := by
      rw [hu, State.mapPos_acct]; rfl
    have hg := (h.inv.good 0).release (t := u) ht (fun q _ => hp q) (by rw [hp]; exact h3) heng htear
      (by rw [hp, h2, hqueue]; have := h.inv.room; omega) 0 (BitVec.ofNat 32 t.total)
      (by rw [hacct]) (by rw [hacct, word_add_zero]) (by rw [hacct]; rfl)
    rw [hp, h1] at hg
    refine ⟨State.Good.inv (hg.inHand (by grind))
      (State.Steady.released (ph := .serving) (h.inv.calm 0) (hp 0) htear), h.served.mono (fun e hf => ?_) fun q hq => ?_⟩
    · rwa [State.eng_congr heng] at hf
    · obtain ⟨-, -, -, h4, h5⟩ := hfields q
      rw [hp] at hq ⊢
      exact ⟨h4 ▸ hq, h5.symm⟩

/-- A listed-card notice taken (R124). -/
theorem State.Laws.takeNotice {s : State} (h : s.Laws) (p : PosId) (k : CardKey) : (s.takeNotice p k).Laws := by
  have h1 : (s.modPos p fun x => { x with notice := none }).Laws := h.modPos_view rfl
  have hp : (s.modPos p fun x => { x with notice := none }).pos p = { s.pos p with notice := none } :=
    State.modPos_pos_self ..
  unfold State.takeNotice
  dsimp only
  split
  · next hc =>
    simp only [Bool.and_eq_true, decide_eq_true_eq] at hc
    obtain ⟨⟨hs, hk⟩, ht⟩ := hc
    have ho := h1.inv.opened p
    have hx := ho.lawful.rest (by rw [hp]; simp [hs, PosState.called]) (by rw [hp]; simp [hs])
    refine State.Open.conclude (State.Good.opened (ho.good.enterRecovering hx ?_))
    rw [State.listed_iff]
    exact ⟨k, by rw [hp]; exact hk, ht⟩
  · exact h1

end Sys2Proof.Machine
end

section
/-!
PROOFS. RESTART keeps the laws, and so does every command; with them the headline statements on units, debts,
reservations and operations. While RESTART ends calls and recoveries its positions are not settled: `s.Halt done` is what
it keeps instead.
-/

namespace Sys2Proof.Machine

/-! ### A block at rest -/

/-- A position that RESTART or power-on reset has brought to rest (R15, R44). -/
structure Position.AtRest (x : Position) : Prop where
  rest : x.Rest
  state : x.state = .vacant ∨ x.state = .blocked
  pendingOp : x.pendingOp = none
  inFlight : x.inFlight = none

theorem Position.AtRest.calm {s : State} {q : PosId} (h : (s.pos q).AtRest) : s.CalmAt q := by
  have hs := h.state
  refine ⟨h.rest.lawful ?_, ⟨fun hl => ?_, fun _ => ?_⟩, fun hw => ?_⟩
  · rcases hs with hs | hs <;> simp [hs, PosState.called]
  · rw [h.rest.cardLost] at hl
    cases hl
  · rw [h.pendingOp, h.rest.derived]
    rcases hs with hs | hs <;> simp [hs]
  · have := ((Position.waiting_iff _).mp hw).1
    rcases hs with hs | hs <;> simp [hs] at this

/-- A state of positions at rest and engines without operations has the laws. -/
theorem State.laws_of_rest {s : State} (hx : ∀ q, (s.pos q).AtRest) (he : ∀ e, (s.eng e).op = none)
    (hroom : s.queue.records.length ≤ 64) (hsound : s.tear.Sound) (hcons : s.Conserved) : s.Laws := by
  refine ⟨⟨fun q => (hx q).calm, ⟨fun e op hop => ?_, fun q f hf => ?_⟩, ?_, hsound, hcons⟩, fun e _ => ?_⟩
  · rw [he e] at hop
    cases hop
  · rw [(hx q).inFlight] at hf
    cases hf
  · have hr : s.reservations = 0 := by
      rw [State.reservations, List.length_eq_zero_iff, List.filter_eq_nil_iff]
      exact fun q _ => by simp [(hx q).rest.reservation]
    omega
  · refine List.eq_nil_iff_forall_not_mem.mpr fun q hq => ?_
    have := (State.mem_candidates.mp hq).1
    rw [(hx q).pendingOp] at this
    cases this

theorem State.reset_laws : State.reset.Laws := by
  have he : ∀ e, (State.reset.eng e).op = none := by decide +kernel
  refine State.laws_of_rest (fun q => ?_) he (Nat.zero_le _) State.reset_bounded.2 State.reset_conserved
  rw [State.reset_pos]
  exact ⟨⟨rfl, rfl, rfl, rfl, rfl, rfl, fun _ => rfl, nofun⟩, .inl rfl, rfl, rfl⟩

/-! ### A block halted -/

structure State.Halt (done : PosId → PosState → Prop) (s : State) : Prop where
  steady : ∀ q, s.Steady (.halting done) q
  agree : s.OperationsAgree
  room : s.queue.records.length + s.reservations ≤ 64
  sound : s.tear.Sound
  conserved : s.Conserved

theorem State.Halt.good {done : PosId → PosState → Prop} {s : State} (h : s.Halt done) (p : PosId) :
    s.Good (.halting done) p 0 :=
  ⟨fun q _ => h.steady q, h.agree, h.room, h.sound, s.balance_zero_iff.mpr h.conserved⟩

/-- The halt is done with one position more. -/
theorem State.Good.halt {done done' : PosId → PosState → Prop} {s : State} {p : PosId}
    (h : s.Good (.halting done) p 0) (hd : ∀ q st, q ≠ p → done' q st → done q st)
    (hp : s.Steady (.halting done') p) : s.Halt done' where
  steady q := by
    by_cases hq : q = p
    · exact hq ▸ hp
    · have hs := h.others q hq
      exact ⟨hs.1, fun hdone => hs.2 (hd q _ hq hdone)⟩
  agree := h.agree
  room := h.room
  sound := h.sound
  conserved := s.balance_zero_iff.mp h.balance

theorem State.Halt.mono {done done' : PosId → PosState → Prop} {s : State} (h : s.Halt done)
    (hd : ∀ q st, done' q st → done q st) : s.Halt done' :=
  ⟨fun q => ⟨(h.steady q).1, fun hq => (h.steady q).2 (hd q _ hq)⟩, h.agree, h.room, h.sound, h.conserved⟩

theorem State.Inv.halt {s : State} (h : s.Inv) : s.Halt fun _ _ => False :=
  ⟨fun q => ⟨.inl (h.calm q).lawful, False.elim⟩, h.agree, h.room, h.sound, h.conserved⟩

/-- With no operation at any engine there is none at any position. -/
theorem State.OperationsAgree.idle {s : State} (h : s.OperationsAgree) (he : ∀ e, (s.eng e).op = none) (q : PosId) :
    (s.pos q).inFlight = none := by
  refine Classical.byContradiction fun hne => ?_
  obtain ⟨f, hf⟩ := Option.ne_none_iff_exists'.mp hne
  obtain ⟨op, hop, -⟩ := h.2 q f hf
  rw [he] at hop
  cases hop

/-! ### Step 1: the engines -/

theorem Position.abandon_kept {x : Position} {f : InFlight} (hf : x.inFlight = some f) (hx : x.Lawful ∨ x.Rest) :
    (x.abandon f.op).Lawful ∨ (x.abandon f.op).Rest := by
  have hcut : Position.Lawful { x with inFlight := none } ∨ Position.Rest { x with inFlight := none } := by
    refine hx.imp (fun h => ?_) fun h => ?_
    · obtain ⟨a1, a2, a3, a4, a5, a6, a7, a8, a9, -⟩ := h
      exact ⟨a1, a2, a3, a4, a5, a6, a7, a8, a9, nofun⟩
    · exact ⟨h.debt, h.doubt, h.call, h.recovery, h.reservation, h.cardLost, h.cardless, nofun⟩
  unfold Position.abandon
  dsimp only
  split
  · next hb =>
    simp only [Bool.and_eq_true, decide_eq_true_eq] at hb
    rcases hx with h | h
    · obtain ⟨-, hd, -⟩ := (h.running f hf).2 (by rw [hb.1]; exact nofun)
      obtain ⟨a1, a2, a3, -, a5, a6, a7, a8, a9, -⟩ := h
      exact .inl ⟨a1, a2, a3, fun _ => hd, a5, a6, a7, a8, a9, nofun⟩
    · exact absurd (hb.1.symm.trans (h.running f hf).2) nofun
  · exact hcut

theorem Position.abandon_fields (op : CardOp) (x : Position) :
    (x.abandon op).inFlight = none ∧ (x.abandon op).debt = x.debt ∧ (x.abandon op).reservation = x.reservation := by
  unfold Position.abandon
  dsimp only
  split <;> exact ⟨rfl, rfl, rfl⟩

theorem Position.Reallocated.kept {x y : Position} (h : x.Reallocated y) (hx : x.Lawful ∨ x.Rest) :
    y.Lawful ∨ y.Rest := by
  refine hx.imp h.lawful fun hr => ?_
  rw [h]
  exact ⟨hr.debt, hr.doubt, hr.call, hr.recovery, hr.reservation, hr.cardLost, hr.cardless, hr.running⟩

theorem State.Halt.restartEngine {s : State} (h : s.Halt fun _ _ => False) (e : EngineId) :
    (s.restartEngine e).Halt (fun _ _ => False) ∧ ∀ d, d = e ∨ (s.eng d).op = none → ((s.restartEngine e).eng d).op =
      none := by
  unfold State.restartEngine
  split
  · next hop =>
    have hg := (h.good 0).regrant (t := s.modEng e (·.restart)) (fun _ _ => rfl)
      (h.agree.modEng (by rw [hop]; rfl) fun hne => absurd hop hne) rfl rfl rfl rfl rfl
    refine ⟨hg.halt (fun _ _ _ => id) (h.steady 0), fun d hd => ?_⟩
    rw [State.modEng_eng]
    split
    · rfl
    · next hde => exact hd.resolve_left hde
  · next op hop =>
    dsimp only
    obtain ⟨⟨f, hf, -, hfo⟩, -⟩ := h.agree.1 e op hop
    let t := ((s.modEng e (·.restart)).modCounts e (·.completed .abandoned)).modPos op.position (·.abandon op.op)
    have hp : t.pos op.position = (s.pos op.position).abandon op.op := State.modPos_pos_self ..
    obtain ⟨h1, h2, h3⟩ := (s.pos op.position).abandon_fields op.op
    have hpq (q : PosId) (hq : q ≠ op.position) : t.pos q = s.pos q := State.modPos_pos_ne _ hq _
    have heng (d : EngineId) : t.eng d = if d = e then (s.eng e).restart else s.eng d := s.modEng_eng e d _
    have hagree : t.OperationsAgree :=
      h.agree.over hop (by rw [heng, if_pos rfl]; rfl) (fun d hd => by rw [heng, if_neg hd]) (by rw [hp]; exact h1) hpq
    have hr : t.Reallocated (t.applyPendingAllocation op.position) := State.reallocated_applyPending ..
    have hg : t.Good (.halting fun _ _ => False) op.position 0 :=
      (h.good op.position).regrant hpq hagree (by rw [hp]; exact h2) (by rw [hp]; exact h3) rfl rfl rfl
    have hkept : (t.pos op.position).Lawful ∨ (t.pos op.position).Rest := by
      rw [hp, ← hfo]
      exact Position.abandon_kept hf (h.steady op.position).1
    have hu : (t.applyPendingAllocation op.position).Good (.halting fun _ _ => False) op.position 0 :=
      hg.of_steady (fun q hq => ⟨(hr.pos q).kept (hg.others q hq).1, False.elim⟩) (fun q => by rw [hr.pos q])
        (fun q => by rw [hr.pos q]) (fun q => by rw [hr.pos q]) hr.engines (by rw [hr.tear]) (Nat.le_of_eq (by rw [hr.queue]))
        (by rw [hr.acct]) (by rw [hr.acct]) (by rw [hr.acct])
    refine ⟨hu.halt (fun _ _ _ => id) ⟨(hr.pos _).kept hkept, False.elim⟩, fun d hd => ?_⟩
    change ((t.applyPendingAllocation op.position).eng d).op = none
    rw [State.eng_congr hr.engines, heng]
    split
    · rfl
    · next hde => exact hd.resolve_left hde

theorem State.Halt.restartEngines {s : State} (h : s.Halt fun _ _ => False) (es : List EngineId) :
    (es.foldl State.restartEngine s).Halt (fun _ _ => False) ∧
      ∀ d, d ∈ es ∨ (s.eng d).op = none → ((es.foldl State.restartEngine s).eng d).op = none := by
  induction es generalizing s with
  | nil => exact ⟨h, fun d hd => hd.resolve_left List.not_mem_nil⟩
  | cons e es ih =>
    obtain ⟨h1, h2⟩ := h.restartEngine e
    obtain ⟨h3, h4⟩ := ih h1
    refine ⟨h3, fun d hd => h4 d ?_⟩
    rcases hd with hd | hd
    · rcases List.mem_cons.mp hd with rfl | hd
      · exact .inr (h2 d (.inl rfl))
      · exact .inl hd
    · exact .inr (h2 d (.inr hd))

/-! ### Steps 2 and 3: the calls and the recoveries -/

theorem State.appendEntry_engines (s : State) (t : TearEntry) : (s.appendEntry t).engines = s.engines := rfl

theorem State.createEntry_engines (s : State) (t : TearEntry) : (s.createEntry t).engines = s.engines := by
  have hevict (e : TearEntry) : (s.evict e).engines = s.engines := by
    unfold State.evict State.releaseWaiters
    rw [State.mapPos_engines]
    rfl
  unfold State.createEntry State.handNotices
  dsimp only
  rw [State.mapPos_engines]
  split
  · rfl
  · split
    · split
      · rfl
      · rw [State.appendEntry_engines, hevict]
    · rfl

theorem State.passDebt_engines (s : State) (p : PosId) : (s.passDebt p).engines = s.engines := by
  unfold State.passDebt
  dsimp only
  split
  · rfl
  · split
    · rfl
    · rw [State.createEntry_engines]
      rfl

theorem State.closeCall_engines (s : State) (p : PosId) : (s.closeCall p).engines = s.engines := by
  unfold State.closeCall
  split <;> rfl

theorem State.closeRecovery_engines (s : State) (p : PosId) (why : EndCause) :
    (s.closeRecovery p why).engines = s.engines := by
  unfold State.closeRecovery
  split <;> rfl

theorem State.restartCall_engines (s : State) (p : PosId) : (s.restartCall p).engines = s.engines := by
  unfold State.restartCall
  split
  · rw [State.closeCall_engines, State.passDebt_engines]
    rfl
  · rfl

theorem State.restartRecovery_engines (s : State) (p : PosId) : (s.restartRecovery p).engines = s.engines := by
  unfold State.restartRecovery
  split
  · rw [State.closeRecovery_engines, State.passDebt_engines]
  · rfl

section
variable {done : PosId → PosState → Prop} {s : State} {p : PosId}

/-- The debt of a position with nothing in flight is passed, and leaves a lawful position that owes nothing. -/
theorem State.Good.passDebt_lawful {ph : Phase} (h : s.Good ph p 0) (hx : (s.pos p).Lawful)
    (hf : (s.pos p).inFlight = none) :
    (s.passDebt p).Good ph p 0 ∧ ((s.passDebt p).pos p).Lawful ∧ (s.pos p).SameRole ((s.passDebt p).pos p) ∧
      ((s.passDebt p).pos p).debt = 0 ∧ ((s.passDebt p).pos p).cardLost = false := by
  obtain ⟨hg, hp⟩ := h.passDebt hx
  obtain ⟨hd, hdo, hl, hrem, hpend⟩ := hx.passed_fields
  rw [hp]
  exact ⟨hg, hx.of_cleared (s.pos p).passed_role (fun f hff => by rw [hf] at hff; cases hff) hpend hd hdo hl hrem,
    (s.pos p).passed_role, hd, hl⟩

theorem Position.restartCause_view (now : Word32) (x : Position) : (x.restartCause now).view = x.view := by
  unfold Position.restartCause
  split
  · rfl
  · exact Position.mapCall_view (f := Call.finish .restart now) (fun _ => rfl) x

theorem PosState.called_iff_inCall (st : PosState) : (st.inCall || st = .clearing) = true ↔ st.called := by
  cases st <;> simp [PosState.inCall, PosState.called]

/-- The call of a position is ended and recorded (R44, step 2). -/
theorem State.Halt.restartCall (h : s.Halt done) (he : ∀ e, (s.eng e).op = none) (p : PosId) :
    (s.restartCall p).Halt fun q st => done q st ∨ (q = p ∧ st.called) := by
  have hsub : ∀ (q : PosId) (st : PosState), q ≠ p → (done q st ∨ (q = p ∧ st.called)) → done q st :=
    fun q st hq hd => hd.resolve_right fun hc => hq hc.1
  unfold State.restartCall
  split
  · next hc =>
    have hcalled := (PosState.called_iff_inCall _).mp hc
    have hv := (s.pos p).restartCause_view s.link.stamp
    have hrole := Position.SameRole.of_view hv
    have hp : (s.modPos p (·.restartCause s.link.stamp)).pos p = (s.pos p).restartCause s.link.stamp :=
      State.modPos_pos_self ..
    have hflight := h.agree.idle he p
    have hg : (s.modPos p (·.restartCause s.link.stamp)).Good (.halting done) p 0 := by
      have hv' := hv
      simp only [Position.view, Prod.mk.injEq] at hv'
      exact (h.good p).modPos hrole.inFlight hv'.2.2.2.1 (by rw [hrole.reservation]; exact id)
    have hrest : ∀ u : State, u.Good (.halting done) p 0 → (u.pos p).Rest →
        u.Halt fun q st => done q st ∨ (q = p ∧ st.called) :=
      fun u hu hr => hu.halt hsub ⟨.inr hr, fun _ => hr⟩
    rcases (h.steady p).1 with hx | hx
    · obtain ⟨h1, h2, h3, h4, h5⟩ := hg.passDebt_lawful (by rw [hp]; exact hx.of_view hv)
        (by rw [hp, hrole.inFlight]; exact hflight)
      obtain ⟨h6, h7, -⟩ := h1.closeCall_rest h2 (by rw [h3.state, hp, hrole.state]; exact hcalled) h4 h5
      exact hrest _ h6 h7
    · have hx1 : ((s.modPos p (·.restartCause s.link.stamp)).pos p).Rest := by rw [hp]; exact hx.of_view hv
      rw [State.passDebt_of_nothing hx1.debt hx1.doubt]
      have hp2 : (((s.modPos p (·.restartCause s.link.stamp)).modPos p fun y => { y with cardLost := false }).pos
          p).Rest := by
        rw [State.modPos_pos_self]
        exact ⟨hx1.debt, hx1.doubt, hx1.call, hx1.recovery, hx1.reservation, rfl, hx1.cardless, hx1.running⟩
      unfold State.closeCall
      rw [hp2.call]
      exact hrest _ (hg.modPos rfl rfl id) hp2
  · next hc =>
    refine (h.good p).halt hsub ⟨(h.steady p).1, fun hd => hd.elim (h.steady p).2 fun hcl => ?_⟩
    exact absurd ((PosState.called_iff_inCall _).mpr hcl.2) hc

/-- A recovery that has taken its entry is ended and recorded (R44, step 3). -/
theorem State.Halt.restartRecovery (h : s.Halt done) (he : ∀ e, (s.eng e).op = none) (p : PosId) :
    (s.restartRecovery p).Halt fun q st => done q st ∨ (q = p ∧ st = .recovering) := by
  have hsub : ∀ (q : PosId) (st : PosState), q ≠ p → (done q st ∨ (q = p ∧ st = .recovering)) → done q st :=
    fun q st hq hd => hd.resolve_right fun hc => hq hc.1
  unfold State.restartRecovery
  split
  · next hc =>
    simp only [Bool.and_eq_true, decide_eq_true_eq, Option.isSome_iff_ne_none] at hc
    have hx := (h.steady p).1.resolve_right fun hr => hc.2 hr.recovery
    obtain ⟨h1, h2, h3, h4, h5⟩ := (h.good p).passDebt_lawful hx (h.agree.idle he p)
    have hrec : ((s.passDebt p).pos p).recovery ≠ none := by
      rw [← Option.isSome_iff_ne_none, h3.recovery, Option.isSome_iff_ne_none]
      exact hc.2
    obtain ⟨h6, h7, -⟩ := h1.closeRecovery_rest h2 hrec h4 h5 .restart
    exact h6.halt hsub ⟨.inr h7, fun _ => h7⟩
  · next hc =>
    refine (h.good p).halt hsub ⟨(h.steady p).1, fun hd => hd.elim (h.steady p).2 fun hr => ?_⟩
    rcases (h.steady p).1 with hx | hx
    · refine hx.rest_of_waiting ((Position.waiting_iff _).mpr ⟨hr.2, ?_⟩)
      rw [Bool.eq_false_iff]
      intro hres
      rcases hx.reserved.mp hres with hs | ⟨-, hrec⟩
      · simp [hr.2] at hs
      · exact hc (by simp [hr.2, Option.isSome_iff_ne_none, hrec])
    · exact hx

end

/-- A halt done with one position after another. -/
theorem State.Halt.foldl {f : State → PosId → State} {mark : PosState → Prop}
    (hf : ∀ (done : PosId → PosState → Prop) (s : State) (p : PosId), s.Halt done → (∀ e, (s.eng e).op = none) →
      (f s p).Halt (fun q st => done q st ∨ (q = p ∧ mark st)) ∧ (f s p).engines = s.engines)
    (ps : List PosId) {done : PosId → PosState → Prop} {s : State} (h : s.Halt done) (he : ∀ e, (s.eng e).op = none) :
    (ps.foldl f s).Halt (fun q st => done q st ∨ (q ∈ ps ∧ mark st)) ∧ ∀ e, ((ps.foldl f s).eng e).op = none := by
  induction ps generalizing s done with
  | nil => exact ⟨h.mono fun q st hd => hd.resolve_right fun hc => List.not_mem_nil hc.1, he⟩
  | cons p ps ih =>
    obtain ⟨h1, h2⟩ := hf done s p h he
    obtain ⟨h3, h4⟩ := ih h1 fun e => by rw [State.eng_congr h2]; exact he e
    refine ⟨h3.mono fun q st hd => ?_, h4⟩
    rcases hd with hd | ⟨hq, hm⟩
    · exact .inl (.inl hd)
    · rcases List.mem_cons.mp hq with rfl | hq
      · exact .inl (.inr ⟨rfl, hm⟩)
      · exact .inr ⟨hq, hm⟩

/-! ### RESTART -/

theorem State.Laws.modLink {s : State} (h : s.Laws) (f : Link → Link) : (s.modLink f).Laws := h.frame rfl rfl rfl rfl rfl

theorem Position.restart_atRest (x : Position) : x.restart.AtRest := by
  refine ⟨⟨rfl, rfl, rfl, rfl, rfl, rfl, fun _ => rfl, nofun⟩, ?_, rfl, rfl⟩
  unfold Position.restart
  dsimp only
  split
  · exact .inr rfl
  · exact .inl rfl

theorem State.Laws.restart {s : State} (h : s.Laws) : s.restart.Laws := by
  obtain ⟨h1, e1⟩ := h.inv.halt.restartEngines allEngines
  have e1' : ∀ e, ((allEngines.foldl State.restartEngine s).eng e).op = none :=
    fun e => e1 e (.inl (List.mem_finRange e))
  obtain ⟨h2, e2⟩ := State.Halt.foldl (f := State.restartCall) (mark := PosState.called)
    (fun _ t p ht he => ⟨ht.restartCall he p, t.restartCall_engines p⟩) allPositions h1 e1'
  obtain ⟨h3, e3⟩ := State.Halt.foldl (f := State.restartRecovery) (mark := (· = .recovering))
    (fun _ t p ht he => ⟨ht.restartRecovery he p, t.restartRecovery_engines p⟩) allPositions h2 e2
  unfold State.restart
  dsimp only
  generalize allPositions.foldl State.restartRecovery
    (allPositions.foldl State.restartCall (allEngines.foldl State.restartEngine s)) = u at *
  have hrest (q : PosId) : (u.pos q).Rest := by
    obtain ⟨hq, hdone⟩ := h3.steady q
    by_cases hc : (u.pos q).state.called
    · exact hdone (.inl (.inr ⟨List.mem_finRange q, hc⟩))
    by_cases hr : (u.pos q).state = .recovering
    · exact hdone (.inr ⟨List.mem_finRange q, hr⟩)
    exact hq.elim (fun hx => hx.rest hc fun hs => absurd hs hr) id
  have hp (q : PosId) : ((u.mapPos fun _ x => x.restart).pos q) = (u.pos q).restart := State.mapPos_pos ..
  refine State.Laws.modLink (State.laws_of_rest (fun q => ?_) (fun e => ?_) ?_ ?_ ?_) _
  · rw [hp]
    exact (u.pos q).restart_atRest
  · rw [State.eng_congr (u.mapPos_engines _)]
    exact e3 e
  · rw [State.mapPos_queue]
    have := h3.room
    omega
  · rw [State.mapPos_tear]
    exact h3.sound
  · have hdebts : (u.mapPos fun _ x => x.restart).debts = u.debts := by
      rw [State.debts_eq_sum, State.debts_eq_sum]
      exact positionSum_congr fun q => by rw [hp, (hrest q).debt]; rfl
    have hc := h3.conserved
    unfold State.Conserved State.tornUnits at *
    rw [hdebts, State.mapPos_tear, State.mapPos_acct]
    exact hc

/-! ### The commands -/

theorem State.Laws.ite {s t : State} (b : Bool) (h1 : b = true → s.Laws) (h2 : t.Laws) : (if b then s else t).Laws := by
  cases b with
  | true => exact h1 rfl
  | false => exact h2

theorem State.Laws.discardFrame {s : State} (h : s.Laws) : s.discardFrame.Laws := h.frame rfl rfl rfl rfl rfl

theorem State.Laws.frameByte {s : State} (h : s.Laws) (bytes : List Byte) (b : Byte) : (s.frameByte bytes b).Laws := by
  unfold State.frameByte
  split
  · split
    · exact h.discardFrame
    · exact h.modLink _
  · dsimp only
    split
    · exact h.modLink _
    · unfold State.frameEnds
      split
      · exact h.discardFrame
      · exact h.modLink _

theorem State.Laws.linkByteReceived {s : State} (h : s.Laws) (b : Byte) :
    (match s.link.receiver with
      | .hunting => if b = Config.syncByte then s.modLink fun l => { l with receiver := .inFrame [] } else s
      | .inFrame bytes => s.frameByte bytes b).Laws := by
  split
  · split
    · exact h.modLink _
    · exact h
  · exact h.frameByte _ b

theorem State.Laws.responseLeaves {s : State} (h : s.Laws) : s.responseLeaves.Laws := by
  have h1 := h.modLink fun l => { l with answerPending := false, response := none }
  unfold State.responseLeaves
  dsimp only
  split
  · exact h1
  · split
    · exact h1.modLink _
    · exact (h1.modLink _).discardFrame

/-- A request keeps the laws that its owner keeps (R155). -/
theorem State.Laws.request {s : State} (h : s.Laws) (c : Instr) {owner : State → State × Reply}
    (ho : (owner s).1.Laws) : (s.request c owner).Laws := by
  unfold State.request
  split
  · exact h.discardFrame
  · exact ho.frame rfl rfl rfl rfl rfl

theorem State.Laws.onPosition {s : State} (h : s.Laws) (b : Byte) {rule : PosId → State → State × Reply}
    (hr : ∀ p, (rule p s).1.Laws) : (onPosition b rule s).1.Laws := by
  unfold Machine.onPosition
  split
  · exact h
  · exact hr _

theorem State.Laws.onEngine {s : State} (h : s.Laws) (b : Byte) {rule : EngineId → State → State × Reply}
    (hr : ∀ e, (rule e s).1.Laws) : (onEngine b rule s).1.Laws := by
  unfold Machine.onEngine
  split
  · exact h
  · exact hr _

theorem State.Laws.set {s : State} (h : s.Laws) (code : Byte) (value : Word16) : (setRule code value s).1.Laws := by
  have hrange (lo hi v : Nat) {t : State} (ht : t.Laws) : (inRange lo hi v s t).1.Laws := by
    unfold inRange
    split
    · exact ht
    · exact h
  have hframe {t : State} (hp : t.positions = s.positions) (he : t.engines = s.engines) (hr : t.tear = s.tear)
      (hq : t.queue = s.queue) (ha : t.acct.totals = s.acct.totals) : t.Laws := h.frame hp he hr hq ha
  have hinterval (v : Nat) : (setInterval v s).1.Laws := by
    unfold setInterval
    split
    · exact hframe rfl rfl rfl rfl rfl
    · exact hrange _ _ _ (hframe rfl rfl rfl rfl rfl)
  unfold setRule
  dsimp only
  split
  case h_7 => exact hinterval _
  case h_9 => exact h
  all_goals exact hrange _ _ _ (hframe rfl rfl rfl rfl rfl)

theorem State.Laws.linkRate {s : State} (h : s.Laws) (code : Byte) : (linkRateRule code s).1.Laws := by
  unfold linkRateRule
  split
  · exact h
  · split
    · exact h
    · rw [accept_fst]
      exact h.modLink _

theorem State.Laws.modTariff {s : State} (h : s.Laws) (f : TariffStore → TariffStore) : (s.modTariff f).Laws :=
  h.frame rfl rfl rfl rfl rfl

theorem State.Laws.band {s : State} (h : s.Laws) (b : Byte) : (bandRule b s).1.Laws := by
  unfold bandRule
  split
  · exact h
  · split
    · exact h
    · refine (h.modTariff _).mapPos_view fun q => ?_
      split
      · refine Position.mapCall_view (f := Call.markBand) (fun c => ?_) _
        unfold Call.markBand
        split
        · rfl
        · split <;> rfl
      · rfl

theorem Position.refrozen_view {x y : Position} (h : y.view = x.view) : (x.refrozen y).view = x.view := by
  unfold Position.refrozen
  split
  · exact h
  · exact h

theorem State.Laws.freeze {s : State} (h : s.Laws) (mark : Byte) (p : PosId) : (freezeRule mark p s).1.Laws := by
  unfold freezeRule
  split
  · exact h
  · rw [accept_fst]
    refine h.modPos_view ?_
    exact Position.refrozen_view rfl

theorem State.Laws.profile {s : State} (h : s.Laws) (prof : Byte) (p : PosId) : (profileRule prof p s).1.Laws := by
  unfold profileRule
  split
  · exact h
  · split
    · rw [accept_fst]
      refine h.modPos_view ?_
      exact Position.refrozen_view rfl
    · exact h

theorem State.Laws.changes {s : State} (h : s.Laws) : (changesRule s).1.Laws := by
  refine h.mapPos_view fun q => ?_
  split <;> rfl

/-- Every command keeps the laws. -/
theorem exec_laws {s : State} (h : s.Laws) (c : Instr) : ∃ t, exec c s = .next t ∧ t.Laws := by
  cases c with
  | powerOnReset => exact ⟨_, rfl, State.reset_laws.frame rfl rfl rfl rfl rfl⟩
  | inputSample p v => exact ⟨_, rfl, iteInduction (fun _ => h) fun _ => h.sample p v⟩
  | meteringTick => exact ⟨_, rfl, h.mapPos_view fun _ => rfl⟩
  | unitExpiry p =>
    refine ⟨_, rfl, .ite _ (fun _ => ?_) h⟩
    split
    case h_1 hs => exact ((h.inv.opened p).meteringExpiry hs).conclude
    case h_2 hs => exact ((h.inv.opened p).lastUnitExpiry hs).conclude
    all_goals exact h
  | answerWaitExpiry p =>
    refine ⟨_, rfl, .ite _ (fun hc => ?_) h⟩
    simp only [Bool.and_eq_true, decide_eq_true_eq] at hc
    exact ((h.inv.opened p).endCall (by rw [hc.2]; rfl) .noAnswer).conclude
  | toneExpiry p => exact ⟨_, rfl, .ite _ (fun _ => h.modPos_view rfl) h⟩
  | clearWaitExpiry p =>
    exact ⟨_, rfl, .ite _ (fun _ => State.Open.conclude ((h.inv.opened p).modPos_view rfl)) h⟩
  | stampAdvance => exact ⟨_, rfl, h.frame rfl rfl rfl rfl rfl⟩
  | snapshotIntervalExpiry => exact ⟨_, rfl, .ite _ (fun _ => h.frame rfl rfl rfl rfl rfl) h⟩
  | busTestEnd e pass => exact ⟨_, rfl, iteInduction (fun hl => h.busTestEnd e pass hl) fun _ => h⟩
  | selectAnswer e a => exact ⟨_, rfl, h.busStep e _⟩
  | headerReadDone e bytes => exact ⟨_, rfl, h.busStep e _⟩
  | readySignal e => exact ⟨_, rfl, h.busStep e _⟩
  | burnTimeout e => exact ⟨_, rfl, h.busStep e _⟩
  | busStall e => exact ⟨_, rfl, .ite _ (fun _ => h.modEng rfl (fun _ => rfl) id) h⟩
  | identifyCompletion e => exact ⟨_, rfl, h.completeKind e _⟩
  | verifyCompletion e => exact ⟨_, rfl, h.completeKind e _⟩
  | burnCompletion e => exact ⟨_, rfl, h.completeKind e _⟩
  | listedCardNotice p =>
    refine ⟨_, rfl, ?_⟩
    split
    · exact h
    · exact h.takeNotice p _
  | frameDiscard why => exact ⟨_, rfl, h.discardFrame⟩
  | frameGapTimeout => exact ⟨_, rfl, h.discardFrame⟩
  | unknownRequest type body =>
    refine ⟨_, rfl, .ite _ (fun _ => h.request _ ?_) h⟩
    unfold unknownRequestRule
    split <;> exact h
  | responseSent => exact ⟨_, rfl, .ite _ (fun _ => h.responseLeaves) h⟩
  | status => exact ⟨_, rfl, h.request _ h⟩
  | changes => exact ⟨_, rfl, h.request _ h.changes⟩
  | position p => exact ⟨_, rfl, h.request _ (h.onPosition p fun _ => h)⟩
  | route p cls => exact ⟨_, rfl, h.request _ (h.onPosition p fun q => h.route cls q)⟩
  | release p => exact ⟨_, rfl, h.request _ (h.onPosition p fun q => h.release q)⟩
  | block p => exact ⟨_, rfl, h.request _ (h.onPosition p fun q => h.block q)⟩
  | unblock p => exact ⟨_, rfl, h.request _ (h.onPosition p fun q => h.unblock q)⟩
  | profile p prof => exact ⟨_, rfl, h.request _ (h.onPosition p fun q => h.profile prof q)⟩
  | freeze p mark => exact ⟨_, rfl, h.request _ (h.onPosition p fun q => h.freeze mark q)⟩
  | allocate p alloc =>
    refine ⟨_, rfl, h.request _ (h.onPosition p fun q => ?_)⟩
    unfold allocateRule
    split
    · exact h
    · exact h.allocate q _
  | laneMode e mode len auto =>
    refine ⟨_, rfl, h.request _ ?_⟩
    unfold laneModeRule
    split
    · split
      · exact h.laneMode ..
      · exact h
    · exact h
  | laneDisable e => exact ⟨_, rfl, h.request _ (h.onEngine e fun k => h.laneDisable k)⟩
  | laneEnable e =>
    refine ⟨_, rfl, h.request _ (h.onEngine e fun k => ?_)⟩
    unfold laneEnableRule
    split
    · next hl => exact h.startTest (by rw [hl]; decide)
    · exact h
  | laneTest e =>
    refine ⟨_, rfl, h.request _ (h.onEngine e fun k => ?_)⟩
    unfold laneTestRule
    split
    · next hl => exact h.startTest (by rw [hl]; decide)
    · exact h
  | tariffStage cls band defined period step initial follow =>
    refine ⟨_, rfl, h.request _ ?_⟩
    unfold tariffStageRule
    split
    · rw [accept_fst]
      exact h.modTariff _
    · exact h
  | tariffCopy => exact ⟨_, rfl, h.request _ (h.frame rfl rfl rfl rfl rfl)⟩
  | tariffCommit edition =>
    refine ⟨_, rfl, h.request _ ?_⟩
    unfold tariffCommitRule
    split
    · exact h
    · rw [accept_fst]
      exact h.modTariff _
  | tariffRead sel cls band =>
    refine ⟨_, rfl, h.request _ ?_⟩
    unfold tariffReadRule
    split <;> exact h
  | band b => exact ⟨_, rfl, h.request _ (h.band b)⟩
  | recordPeek =>
    refine ⟨_, rfl, h.request _ ?_⟩
    unfold recordPeekRule
    split <;> exact h
  | recordRelease seq => exact ⟨_, rfl, h.request _ (h.recordRelease seq)⟩
  | tearRead index =>
    refine ⟨_, rfl, h.request _ ?_⟩
    unfold tearReadRule
    split
    · exact h
    · split <;> exact h
  | tearDelete series serial => exact ⟨_, rfl, h.request _ (h.tearDelete series serial)⟩
  | counters => exact ⟨_, rfl, h.request _ h⟩
  | snapshot => exact ⟨_, rfl, h.request _ (h.frame rfl rfl rfl rfl rfl)⟩
  | set code value => exact ⟨_, rfl, h.request _ (h.set code value)⟩
  | clock stamp => exact ⟨_, rfl, h.request _ (h.frame rfl rfl rfl rfl rfl)⟩
  | clearAlerts alerts => exact ⟨_, rfl, h.request _ (h.frame rfl rfl rfl rfl rfl)⟩
  | linkRate code => exact ⟨_, rfl, h.request _ (h.linkRate code)⟩
  | restart => exact ⟨_, rfl, h.request _ h.restart⟩
  | linkByteReceived b => exact ⟨_, rfl, h.linkByteReceived b⟩

/-! ### Every state the block can come to -/

theorem State.Laws.idleMillisecond {s : State} (h : s.Laws) : s.idleMillisecond.Laws := by
  let f : Engine → Engine := fun g => if g.lane = .testing then { g with testTimeLeft := g.testTimeLeft - 1 } else g
  have heng (e : EngineId) : s.idleMillisecond.eng e = f (s.eng e) := State.mapEng_eng ..
  have hf (g : Engine) : (f g).op = g.op ∧ (f g).lane = g.lane ∧ (f g).disablePending = g.disablePending := by
    change (if _ then _ else _ : Engine).op = _ ∧ (if _ then _ else _ : Engine).lane = _ ∧
      (if _ then _ else _ : Engine).disablePending = _
    split <;> exact ⟨rfl, rfl, rfl⟩
  refine ⟨h.inv.engines rfl (h.inv.agree.of_same (fun _ => rfl) (fun e => by rw [heng, (hf _).1]) fun e _ => by
    rw [heng, (hf _).2.1]) rfl rfl rfl, h.served.mono (fun e hfree => ?_) fun q hq => ⟨hq, rfl⟩⟩
  obtain ⟨h1, h2, h3⟩ := hf (s.eng e)
  rw [heng, Engine.free_iff, h1, h2, h3] at hfree
  exact (Engine.free_iff _).mpr hfree

theorem step_laws {s t : State} (h : s.Laws) (ht : step s = .next t) : t.Laws := by
  unfold step at ht
  split at ht
  · cases ht
    exact h.idleMillisecond
  · next c rest _ =>
    obtain ⟨u, hu, hl⟩ := exec_laws (s := { s with pending := rest }) (h.frame rfl rfl rfl rfl rfl) c
    rw [hu] at ht
    cases ht
    exact hl

theorem Reachable.laws {s : State} (h : Reachable s) : s.Laws := by
  induction h with
  | reset => exact State.reset_laws
  | arrive s c _ ih => exact ih.frame rfl rfl rfl rfl rfl
  | step s t _ ht ih => exact step_laws ih ht

/-! ### The statements -/

/-- Settles O58: the balance of units is part of `State.Inv`, which every step keeps. -/
theorem unitsAreConserved : Obligations.UnitsAreConserved := by
  unfold Obligations.UnitsAreConserved
  exact fun s h => h.laws.inv.conserved

theorem Position.Lawful.debtLaw {x : Position} (h : x.Lawful) : x.DebtLaw := by
  refine ⟨h.ceiling, h.covered, fun hi => ?_, h.doubted⟩
  have := h.covered
  have := h.cardless hi
  omega

theorem Position.Lawful.lossLaw {x : Position} (h : x.Lawful) (hs : x.Settled) : x.LossLaw := by
  intro hl
  obtain ⟨h1, -, h2⟩ := h.lost hl
  exact ⟨h1, hs.awaited hl, h2⟩

/-- Settles O59: the laws of the positions are those of `Position.Lawful` and `Position.Settled`. -/
theorem debtsAndReservationsKeepTheirLaws : Obligations.DebtsAndReservationsKeepTheirLaws := by
  unfold Obligations.DebtsAndReservationsKeepTheirLaws
  intro s h
  have hi := h.laws.inv
  refine ⟨fun p => ?_, hi.agree, hi.room⟩
  obtain ⟨hl, hs, -⟩ := hi.calm p
  exact ⟨hl.debtLaw, hl.reserved, hl.context, hl.lossLaw hs⟩

/-- The operation derived is the one needed (R100). -/
theorem Position.needs_derived (x : Position) : x.Needs x.derived := by
  unfold Position.derived Position.Needs Position.present
  refine ⟨fun ⟨h1, h2⟩ => by simp [h1, h2], fun hn => ?_⟩
  rw [if_neg (by simpa using hn)]
  refine ⟨fun ⟨h1, h2, h3, h4⟩ => ?_, fun ⟨h1, h2, h3, h4, h5⟩ => ?_, fun hc => ?_⟩
  · rw [if_pos (by simp [Option.isSome_iff_ne_none, h1, h2, h3, h4])]
  · rw [if_neg (by simp [h1]), if_pos (by simp [h2, h3, h4, h5])]
  · rw [if_neg (by rcases hc with hc | hc | hc | hc <;> simp [hc]),
      if_neg (by rcases hc with hc | hc | hc | hc <;> simp [hc])]

/-- Settles O60: derivations are part of `Position.Settled`, and `State.Served` is what the arbitrations leave. -/
theorem operationsAreDerivedAndServed : Obligations.OperationsAreDerivedAndServed := by
  unfold Obligations.OperationsAreDerivedAndServed
  intro s h
  obtain ⟨hi, hserved⟩ := h.laws
  refine ⟨fun p hf => ?_, fun p hf => ?_, fun e h1 h2 h3 => hserved e ((Engine.free_iff _).mpr ⟨h1, h2, h3⟩)⟩
  · rw [(hi.calm p).settled.derived hf]
    exact (s.pos p).needs_derived
  · obtain ⟨f, hf⟩ := Option.ne_none_iff_exists'.mp hf
    exact ((hi.calm p).lawful.running f hf).1

end Sys2Proof.Machine
end

section
/-!
PROOFS. Steps, the timers and the de-bounce: the commands whose effect is told field by field, and what no event changes
of a position's inputs but a sample (R3).
-/

namespace Sys2Proof.Machine

/-! ### Steps -/

/-- Settles O1. -/
theorem stepRunsFrontCommand : Obligations.StepRunsFrontCommand := by
  unfold Obligations.StepRunsFrontCommand
  intro c rest s h
  unfold step
  rw [h]

/-- Settles O2: the engines are mapped one by one, and nothing else is touched. -/
theorem idleStepCountsTestTime : Obligations.IdleStepCountsTestTime := by
  unfold Obligations.IdleStepCountsTestTime
  intro s h
  refine ⟨s.idleMillisecond, by unfold step; rw [h], fun e => State.mapEng_eng .., rfl⟩

theorem TariffTable.entry_undefined (c : Fin 16) (b : Fin 4) : TariffTable.undefined.entry c b = .undefined := by
  simp [TariffTable.entry, TariffTable.undefined]

theorem State.reset_eng (e : EngineId) : State.reset.eng e = Engine.reset (e != reliefEngine) := by
  revert e
  decide +kernel

/-- Settles O3, field by field. -/
theorem powerOnResetRestoresValues : Obligations.PowerOnResetRestoresValues := by
  unfold Obligations.PowerOnResetRestoresValues
  intro s
  refine ⟨{ State.reset with pending := s.pending }, rfl, rfl, fun p => ?_, rfl, rfl, fun c b => ?_, rfl, rfl,
    fun e => ?_, rfl, rfl, rfl, fun e => ?_, rfl, rfl, rfl, rfl, rfl, rfl, rfl, rfl, rfl, rfl, rfl⟩
  · have hp : State.pos { State.reset with pending := s.pending } p = Position.reset := State.reset_pos p
    rw [hp]
    exact ⟨rfl, rfl, rfl, rfl, rfl, rfl, rfl, rfl, rfl, rfl, rfl, rfl, rfl, rfl, rfl, rfl, rfl, rfl, rfl, rfl, rfl, rfl,
      rfl, rfl, rfl, rfl, rfl, rfl, rfl, rfl⟩
  · exact ⟨TariffTable.entry_undefined c b, TariffTable.entry_undefined c b⟩
  · have he : State.eng { State.reset with pending := s.pending } e = Engine.reset (e != reliefEngine) :=
      State.reset_eng e
    rw [he]
    exact ⟨rfl, rfl, rfl, rfl, rfl, rfl, rfl, rfl, rfl, fun hn => bne_iff_ne.mpr hn⟩
  · exact Vector.getElem_replicate e.isLt

/-! ### Timers and accounts -/

/-- Settles O10. -/
theorem tickAndToneExpiry : Obligations.TickAndToneExpiry := by
  unfold Obligations.TickAndToneExpiry
  constructor
  · exact fun s => ⟨_, rfl, by unfold State.mapPos; rfl, fun p => State.mapPos_pos ..⟩
  · intro s p h
    have hdue : (s.pos p).oneShotDue .tone = true := by simp [Position.oneShotDue, h]
    change Host.Outcome.next (if (s.pos p).oneShotDue .tone then _ else _) = _
    rw [if_pos hdue]
    refine congrArg Host.Outcome.next (State.modPos_congr ?_)
    simp [OneShot.stop, h]

/-- Settles O14: a CLOCK is taken by its owner at once. -/
theorem stampAdvancesAndIsSet : Obligations.StampAdvancesAndIsSet := by
  unfold Obligations.StampAdvancesAndIsSet
  exact fun s => ⟨rfl, fun v h => exec_of_owner (owner := clockRule v) rfl h rfl⟩

/-- Settles O15: the expiry is a snapshot event that first takes its own due mark. -/
theorem snapshotCopiesAndClears : Obligations.SnapshotCopiesAndClears := by
  unfold Obligations.SnapshotCopiesAndClears
  intro s
  refine ⟨fun h => exec_of_owner (owner := snapshotRule) rfl h rfl, fun h => ?_⟩
  change Host.Outcome.next (if s.acct.intervalDue then _ else _) = _
  rw [if_pos h]
  rfl

end Sys2Proof.Machine
end

section
/-!
PROOFS. Samples: no event but a sample moves an input (R3), and what an accepted sample begins.
-/

namespace Sys2Proof.Machine

/-! ### The inputs are left -/

/-- A position whose inputs are those of another. -/
def Position.SameInputs (x y : Position) : Prop := y.hook = x.hook ∧ y.card = x.card ∧ y.line = x.line

theorem Position.SameInputs.refl (x : Position) : x.SameInputs x := ⟨rfl, rfl, rfl⟩

theorem Position.SameInputs.trans {x y z : Position} (h1 : x.SameInputs y) (h2 : y.SameInputs z) : x.SameInputs z :=
  ⟨h2.1.trans h1.1, h2.2.1.trans h1.2.1, h2.2.2.trans h1.2.2⟩

def State.SameInputs (s t : State) : Prop := ∀ q, (s.pos q).SameInputs (t.pos q)

theorem State.SameInputs.refl (s : State) : s.SameInputs s := fun _ => .refl _

theorem State.SameInputs.trans {s t u : State} (h1 : s.SameInputs t) (h2 : t.SameInputs u) : s.SameInputs u :=
  fun q => (h1 q).trans (h2 q)

theorem State.SameInputs.of_positions {s t : State} (h : t.positions = s.positions) : s.SameInputs t := fun q => by
  rw [State.pos_congr h q]
  exact .refl _

/-- What the end of an `if` leaves. -/
theorem State.SameInputs.ite {s t u : State} {c : Prop} [Decidable c] (h1 : s.SameInputs t) (h2 : s.SameInputs u) :
    s.SameInputs (if c then t else u) := by
  split
  · exact h1
  · exact h2

theorem State.modPos_inputs {s : State} {p : PosId} {f : Position → Position}
    (h : (s.pos p).SameInputs (f (s.pos p))) : s.SameInputs (s.modPos p f) := by
  intro q
  rw [State.modPos_pos]
  split
  · next hq => exact hq ▸ h
  · exact .refl _

theorem State.mapPos_inputs {s : State} {f : PosId → Position → Position}
    (h : ∀ q, (s.pos q).SameInputs (f q (s.pos q))) : s.SameInputs (s.mapPos f) := by
  intro q
  rw [State.mapPos_pos]
  exact h q

theorem State.UpToGrants.inputs {s t : State} (h : s.UpToGrants t) : s.SameInputs t := fun q => by
  rw [h.pos q]
  exact ⟨rfl, rfl, rfl⟩

theorem Position.arriveVacant_inputs (x : Position) : x.SameInputs x.arriveVacant := by
  unfold Position.arriveVacant
  split
  · exact ⟨rfl, rfl, rfl⟩
  · dsimp only
    split <;> exact ⟨rfl, rfl, rfl⟩

theorem Position.arriveRefused_inputs (why : RefusalCause) (x : Position) : x.SameInputs (x.arriveRefused why) := by
  unfold Position.arriveRefused
  split <;> exact ⟨rfl, rfl, rfl⟩

theorem Position.arriveReadyUnlisted_inputs (x : Position) : x.SameInputs x.arriveReadyUnlisted := by
  unfold Position.arriveReadyUnlisted
  split <;> exact ⟨rfl, rfl, rfl⟩

theorem Position.leaveWait_inputs (x : Position) : x.SameInputs x.leaveWait := by
  unfold Position.leaveWait
  split
  · exact x.arriveRefused_inputs .empty
  · exact x.arriveReadyUnlisted_inputs

theorem Position.mapUnits_inputs (f : Units → Units) (x : Position) : x.SameInputs (x.mapUnits f) := by
  unfold Position.mapUnits
  split <;> exact ⟨rfl, rfl, rfl⟩

theorem Position.lastUnitTest_inputs (x : Position) : x.SameInputs x.lastUnitTest := by
  unfold Position.lastUnitTest
  split
  · exact .refl x
  · split
    · exact ⟨rfl, rfl, rfl⟩
    · exact .refl x

theorem State.closeCall_inputs (s : State) (p : PosId) : s.SameInputs (s.closeCall p) := by
  unfold State.closeCall
  split
  · exact .refl s
  · exact State.modPos_inputs (s := s.writeRecord _) ⟨rfl, rfl, rfl⟩

theorem State.closeRecovery_inputs (s : State) (p : PosId) (why : EndCause) : s.SameInputs (s.closeRecovery p why) := by
  unfold State.closeRecovery
  split
  · exact .refl s
  · exact State.modPos_inputs (s := s.writeRecord _) ⟨rfl, rfl, rfl⟩

theorem State.releaseWaiters_inputs (s : State) (k : CardKey) : s.SameInputs (s.releaseWaiters k) := by
  refine State.mapPos_inputs fun q => ?_
  split
  · exact Position.leaveWait_inputs _
  · exact .refl _

theorem State.handNotices_inputs (s : State) (k : CardKey) : s.SameInputs (s.handNotices k) := by
  refine State.mapPos_inputs fun q => ?_
  split <;> exact ⟨rfl, rfl, rfl⟩

theorem State.evict_inputs (s : State) (t : TearEntry) : s.SameInputs (s.evict t) :=
  State.releaseWaiters_inputs _ _

theorem State.createEntry_inputs (s : State) (t : TearEntry) : s.SameInputs (s.createEntry t) := by
  refine State.SameInputs.trans ?_ (State.handNotices_inputs _ _)
  split
  · exact .refl s
  · split
    · exact .ite (.refl s) (s.evict_inputs _)
    · exact .refl s

theorem State.passDebt_inputs (s : State) (p : PosId) : s.SameInputs (s.passDebt p) := by
  unfold State.passDebt
  dsimp only
  split
  · exact State.modPos_inputs ⟨rfl, rfl, rfl⟩
  · split
    · exact State.modPos_inputs ⟨rfl, rfl, rfl⟩
    · refine State.SameInputs.trans (State.modPos_inputs ?_) (State.createEntry_inputs _ _)
      exact (Position.mapUnits_inputs _ (s.pos p)).trans ⟨rfl, rfl, rfl⟩

theorem State.endCall_inputs (s : State) (p : PosId) (why : EndCause) : s.SameInputs (s.endCall p why) := by
  rw [State.endCall_eq]
  exact State.modPos_inputs ⟨rfl, rfl, rfl⟩

theorem State.settleHandOver_inputs (s : State) (p : PosId) : s.SameInputs (s.settleHandOver p) := by
  unfold State.settleHandOver
  refine .ite (.trans (s.closeRecovery_inputs p _) (State.modPos_inputs ?_)) (.refl s)
  exact Position.leaveWait_inputs _

theorem State.handOver_inputs (s : State) (p : PosId) : s.SameInputs (s.handOver p) := by
  unfold State.handOver
  dsimp only
  split
  · exact .refl s
  · split
    · exact .refl s
    · refine .trans (.trans (.trans ?_ (State.modPos_inputs ?_)) (State.releaseWaiters_inputs _ _))
        (State.settleHandOver_inputs _ p)
      · exact .of_positions rfl
      · exact ⟨rfl, rfl, rfl⟩

theorem State.admitRecovery_inputs (s : State) (p : PosId) : s.SameInputs (s.admitRecovery p) :=
  .trans (State.modPos_inputs ⟨rfl, rfl, rfl⟩) (State.handOver_inputs _ p)

theorem State.enterRecovering_inputs (s : State) (p : PosId) : s.SameInputs (s.enterRecovering p) := by
  have h : s.SameInputs (s.modPos p (·.enter .recovering)) := State.modPos_inputs ⟨rfl, rfl, rfl⟩
  exact .ite (h.trans (State.admitRecovery_inputs _ p)) h

theorem State.arriveReady_inputs (s : State) (p : PosId) : s.SameInputs (s.arriveReady p) :=
  .ite (State.modPos_inputs ⟨rfl, rfl, rfl⟩) (.ite (s.enterRecovering_inputs p) (State.modPos_inputs ⟨rfl, rfl, rfl⟩))

theorem State.finishRecovery_inputs (s : State) (p : PosId) : s.SameInputs (s.finishRecovery p) :=
  .ite ((s.closeRecovery_inputs p _).trans (State.modPos_inputs (Position.arriveRefused_inputs _ _)))
    ((s.closeRecovery_inputs p _).trans (State.arriveReady_inputs _ p))

theorem State.loseRecovery_inputs (s : State) (p : PosId) : s.SameInputs (s.loseRecovery p) :=
  ((s.passDebt_inputs p).trans (State.closeRecovery_inputs _ p _)).trans
    (State.modPos_inputs (Position.arriveVacant_inputs _))

theorem State.finishClearing_inputs (s : State) (p : PosId) : s.SameInputs (s.finishClearing p) := by
  refine .trans (s.closeCall_inputs p) ?_
  refine .ite (State.modPos_inputs ⟨rfl, rfl, rfl⟩) ?_
  refine .ite (State.modPos_inputs (Position.arriveVacant_inputs _)) ?_
  refine .ite (State.modPos_inputs (Position.arriveRefused_inputs _ _)) ?_
  refine .ite (State.enterRecovering_inputs _ p) ?_
  refine .ite (State.modPos_inputs ⟨rfl, rfl, rfl⟩) ?_
  refine .ite (State.modPos_inputs (Position.arriveVacant_inputs _)) ?_
  exact .ite (State.modPos_inputs (Position.arriveRefused_inputs _ _))
    (State.modPos_inputs (Position.arriveReadyUnlisted_inputs _))

theorem State.conclude_inputs (s : State) (p : PosId) : s.SameInputs (s.conclude p) := by
  refine .trans (t := s.settle p) ?_ (s.conclude_upToGrants p).inputs
  exact .ite (s.finishClearing_inputs p) (.ite (s.finishRecovery_inputs p) (.refl s))

theorem State.passOrLose_inputs (s : State) (p : PosId) : s.SameInputs (s.passOrLose p) :=
  .ite (State.modPos_inputs ⟨rfl, rfl, rfl⟩) (s.passDebt_inputs p)

theorem State.cardLeaves_inputs (s : State) (p : PosId) : s.SameInputs (s.cardLeaves p) := by
  have hleft : s.SameInputs (s.modPos p fun x => { x with cardLeft := true }) := State.modPos_inputs ⟨rfl, rfl, rfl⟩
  have hcall (u : State) : s.SameInputs u → s.SameInputs
      (((u.modPos p fun x => { x with cardLeft := true }).endCall p .cardWithdrawn).passOrLose p) := fun hu =>
    ((hu.trans (State.modPos_inputs ⟨rfl, rfl, rfl⟩)).trans (State.endCall_inputs _ p _)).trans
      (State.passOrLose_inputs _ p)
  unfold State.cardLeaves
  split
  case h_1 | h_2 => exact .refl s
  case h_3 => exact State.modPos_inputs (.trans (y := (s.pos p).discardIdentify) ⟨rfl, rfl, rfl⟩
    (Position.arriveVacant_inputs _))
  case h_4 | h_5 => exact State.modPos_inputs (Position.arriveVacant_inputs _)
  case h_6 | h_7 | h_8 => exact hcall (s.modGlobal _) (.refl s)
  case h_9 => exact State.modPos_inputs ⟨rfl, rfl, rfl⟩
  case h_10 => exact hleft.trans (State.passOrLose_inputs _ p)
  case h_11 =>
    exact .ite (hleft.trans (State.modPos_inputs (Position.arriveVacant_inputs _)))
      (.ite (hleft.trans (State.modPos_inputs ⟨rfl, rfl, rfl⟩)) (hleft.trans (State.loseRecovery_inputs _ p)))

theorem State.cardAccepted_inputs (s : State) (p : PosId) (previous : Option CardLevel) (v : CardLevel) :
    s.SameInputs (s.cardAccepted p previous v) := by
  cases v with
  | present => exact .ite (State.modPos_inputs ⟨rfl, rfl, rfl⟩) (.refl s)
  | absent => exact .ite (s.cardLeaves_inputs p) (.refl s)

theorem State.hookAccepted_inputs (s : State) (p : PosId) (v : HookLevel) : s.SameInputs (s.hookAccepted p v) := by
  have h : s.SameInputs (s.modPos p fun x => { x with changed := true }) := State.modPos_inputs ⟨rfl, rfl, rfl⟩
  exact .ite (h.trans (State.endCall_inputs _ p _)) h

theorem State.charge_inputs (s : State) (p : PosId) (n : Nat) : s.SameInputs (s.charge p n) := by
  intro q
  rw [State.charge_def, State.reportCharged_pos, State.modPos_pos]
  split
  · next hq => exact hq ▸ ⟨rfl, rfl, rfl⟩
  · exact .refl _

theorem State.modTotals_inputs (s : State) (f : Totals → Totals) : s.SameInputs (s.modTotals f) := .of_positions rfl

theorem State.answerCall_inputs (s : State) (p : PosId) : s.SameInputs (s.answerCall p) := by
  have h : s.SameInputs (s.modPos p (·.mapCall fun c => { c with answer := some s.link.stamp })) :=
    State.modPos_inputs ⟨rfl, rfl, rfl⟩
  unfold State.answerCall
  dsimp only
  split
  · exact .refl s
  · refine .ite (h.trans ?_) (h.trans (State.endCall_inputs _ p _))
    refine .trans (.trans (.trans (State.modPos_inputs ?_) (State.charge_inputs _ p _)) (State.modPos_inputs ?_))
      (State.modTotals_inputs _ _)
    · exact ⟨rfl, rfl, rfl⟩
    · exact .trans (y := Position.startMetering _ _) ⟨rfl, rfl, rfl⟩ (Position.lastUnitTest_inputs _)

theorem State.lineAccepted_inputs (s : State) (p : PosId) (v : LineCode) : s.SameInputs (s.lineAccepted p v) := by
  cases v with
  | proceed => exact .refl s
  | idle => exact .ite (State.modPos_inputs ⟨rfl, rfl, rfl⟩) (.refl s)
  | answer => exact .ite (s.answerCall_inputs p) (.ite (State.modPos_inputs ⟨rfl, rfl, rfl⟩) (.refl s))
  | clearback => exact .ite (s.endCall_inputs p _) (.refl s)

/-! ### Accepted samples -/

theorem exec_inputSample {s : State} {p : PosId} (h : (s.pos p).frozen = false) (v : Sample) :
    exec (.inputSample p v) s = .next (s.sample p v) := by
  change Host.Outcome.next (if (s.pos p).frozen then s else s.sample p v) = _
  rw [h]
  rfl

section
variable {s : State} {p : PosId} (hf : (s.pos p).frozen = false)
include hf

theorem exec_hook_accepted {v : HookLevel} (h : Input.Completes s.depths.hook v (s.pos p).hook) :
    exec (.inputSample p (.hook v)) s =
      .next (((s.modPos p fun x => { x with hook := .acceptedAt v }).hookAccepted p v).conclude p) := by
  rw [exec_inputSample hf]
  unfold State.sample
  dsimp only
  rw [Input.sample_of_completes h]
  rfl

theorem exec_card_accepted {v : CardLevel} (h : Input.Completes s.depths.card v (s.pos p).card) :
    exec (.inputSample p (.card v)) s =
      .next (((s.modPos p fun x => { x with card := .acceptedAt v }).cardAccepted p (s.pos p).card.accepted v).conclude
        p) := by
  rw [exec_inputSample hf]
  unfold State.sample
  dsimp only
  rw [Input.sample_of_completes h]
  rfl

theorem exec_line_accepted {v : LineCode} (h : Input.Completes s.depths.line v (s.pos p).line) :
    exec (.inputSample p (.line v)) s =
      .next (((s.modPos p fun x => { x with line := .acceptedAt v }).lineAccepted p v).conclude p) := by
  rw [exec_inputSample hf]
  unfold State.sample
  dsimp only
  rw [Input.sample_of_completes h]
  rfl

end

/-- A sample that is accepted is of another value than the one accepted before. -/
theorem Input.sample_accepted {α : Type} [DecidableEq α] {depth : Nat} {v : α} {i : Input α}
    (h : (i.sample depth v).2 = true) : (i.sample depth v).1.accepted ≠ i.accepted := by
  unfold Input.sample at h ⊢
  by_cases h1 : i.accepted = some v
  · rw [if_pos h1] at h
    cases h
  · rw [if_neg h1] at h ⊢
    dsimp only at h ⊢
    by_cases hd : depth ≤ if i.last = some v then i.run + 1 else 1
    · rw [if_pos hd]
      exact fun hc => h1 hc.symm
    · rw [if_neg hd] at h
      cases h

/-- Settles O4: what follows an accepted sample leaves the inputs, and one that is not accepted ends there. -/
theorem inputDebounceStep : Obligations.InputDebounceStep := by
  unfold Obligations.InputDebounceStep
  intro s p
  refine ⟨fun v hf => ?_, fun v hf => ⟨_, exec_inputSample hf _, ?_⟩, fun v hf => ⟨_, exec_inputSample hf _, ?_⟩,
    fun v hf => ⟨_, exec_inputSample hf _, ?_⟩⟩
  · change Host.Outcome.next (if (s.pos p).frozen then s else s.sample p v) = _
    rw [hf]
    rfl
  · have hs := Input.sample_sampled s.depths.hook v (s.pos p).hook
    unfold State.sample
    dsimp only
    split
    · next hr =>
      have hk (u : State) := (((u.hookAccepted_inputs p v).trans (State.conclude_inputs _ p)) p).1
      rw [hk, State.modPos_pos_self]
      exact ⟨hs, fun hc => absurd hc (Input.sample_accepted hr)⟩
    · rw [State.modPos_pos_self]
      exact ⟨hs, fun _ => rfl⟩
  · have hs := Input.sample_sampled s.depths.card v (s.pos p).card
    unfold State.sample
    dsimp only
    split
    · next hr =>
      have hk (u : State) := (((u.cardAccepted_inputs p (s.pos p).card.accepted v).trans (State.conclude_inputs _ p)) p).2.1
      rw [hk, State.modPos_pos_self]
      exact ⟨hs, fun hc => absurd hc (Input.sample_accepted hr)⟩
    · rw [State.modPos_pos_self]
      exact ⟨hs, fun _ => rfl⟩
  · have hs := Input.sample_sampled s.depths.line v (s.pos p).line
    unfold State.sample
    dsimp only
    split
    · next hr =>
      have hk (u : State) := (((u.lineAccepted_inputs p v).trans (State.conclude_inputs _ p)) p).2.2
      rw [hk, State.modPos_pos_self]
      exact ⟨hs, fun hc => absurd hc (Input.sample_accepted hr)⟩
    · rw [State.modPos_pos_self]
      exact ⟨hs, fun _ => rfl⟩

end Sys2Proof.Machine
end

section
/-!
PROOFS. Insertions, enders, the answer procedure and the unit expiries: the state each comes to, up to the card
operations of the end of the event.
-/

namespace Sys2Proof.Machine

/-! ### The end of an event -/

/-- An event that leaves its position in a state with nothing to settle. -/
theorem State.conclude_of_other {s : State} {p : PosId} (h1 : (s.pos p).state ≠ .clearing)
    (h2 : (s.pos p).state ≠ .recovering) : s.UpToGrants (s.conclude p) :=
  State.conclude_of_settled (s.settle_of_other p h1 h2)

/-- An arbitration leaves a position its operation, pending or granted. -/
theorem State.arbitrate_keeps_op {s : State} {p : PosId} {op : CardOp} (e : EngineId)
    (h : (s.pos p).pendingOp = some op ∨ ((s.pos p).pendingOp = none ∧ (s.pos p).inFlight.map (·.op) = some op)) :
    ((s.arbitrate e).pos p).pendingOp = some op ∨
      (((s.arbitrate e).pos p).pendingOp = none ∧ ((s.arbitrate e).pos p).inFlight.map (·.op) = some op) := by
  rcases s.arbitrate_cases e with ⟨heq, -⟩ | ⟨q, op', -, -, hop, heq⟩
  · rwa [heq]
  · rw [heq, State.grant_pos]
    split
    · next hq =>
      subst hq
      rcases h with h | ⟨h, -⟩
      · rw [hop] at h
        cases h
        exact .inr ⟨rfl, rfl⟩
      · rw [hop] at h
        cases h
    · exact h

theorem State.serve_keeps_op {s : State} {p : PosId} {op : CardOp} (h : (s.pos p).pendingOp = some op) :
    (s.serve.pos p).pendingOp = some op ∨ (s.serve.pos p).inFlight.map (·.op) = some op := by
  have hfold (es : List EngineId) : ∀ u : State,
      ((u.pos p).pendingOp = some op ∨ ((u.pos p).pendingOp = none ∧ (u.pos p).inFlight.map (·.op) = some op)) →
      ((es.foldl State.arbitrate u).pos p).pendingOp = some op ∨
        (((es.foldl State.arbitrate u).pos p).pendingOp = none ∧
          ((es.foldl State.arbitrate u).pos p).inFlight.map (·.op) = some op) := by
    induction es with
    | nil => exact fun _ => id
    | cons e es ih => exact fun u hu => ih _ (State.arbitrate_keeps_op e hu)
  exact (hfold allEngines s (.inl h)).imp_right And.right

/-! ### Insertions -/

/-- Settles O5: the IDENTIFY is derived in READING, and an arbitration can only grant it. -/
theorem insertionStartsReading : Obligations.InsertionStartsReading := by
  unfold Obligations.InsertionStartsReading
  intro s p hf hc hs hprof hidle hid
  refine ⟨_, exec_card_accepted hf hc, ?_⟩
  have hins : (s.modPos p fun x => { x with card := .acceptedAt .present }).cardAccepted p (s.pos p).card.accepted
      .present = s.modPos p fun x => { (x.rested .reading) with card := .acceptedAt .present, retry := 0 } := by
    change State.insertion _ p = _
    unfold State.insertion
    rw [State.modPos_pos_self, if_pos (by simp [hs, hprof]), State.modPos_modPos]
    rfl
  rw [hins]
  generalize hu : (s.modPos p fun x => { (x.rested .reading) with card := .acceptedAt .present, retry := 0 }) = u
  have hp : u.pos p = { ((s.pos p).rested .reading) with card := .acceptedAt .present, retry := 0 } := by
    rw [← hu, State.modPos_pos_self]
  have hset : u.settle p = u := u.settle_of_other p (by rw [hp]; exact nofun) (by rw [hp]; exact nofun)
  refine ⟨State.conclude_of_settled hset, ?_⟩
  unfold State.conclude
  rw [hset]
  refine State.serve_keeps_op ?_
  unfold State.derive
  rw [State.modPos_pos_self, hp]
  simp [Position.derive, Position.derived, Position.rested, hidle, hid]

/-! ### Enders -/

/-- An ender after a change of the position. -/
theorem State.modPos_endCall (s : State) (p : PosId) (f : Position → Position) (why : EndCause) :
    (s.modPos p f).endCall p why = s.modPos p fun x => (f x).inClearing s.settings.clearWait s.link.stamp why := by
  rw [State.endCall_eq, State.modPos_modPos]
  rfl

/-- The event of an ender whose call keeps clearing. -/
theorem State.ender_upToGrants {s : State} {p : PosId} (f : Position → Position) (why : EndCause)
    (h : (f (s.pos p)).line.accepted ≠ some .idle ∨ 0 < (f (s.pos p)).debt) :
    (s.modPos p fun x => (f x).inClearing s.settings.clearWait s.link.stamp why).UpToGrants
      (((s.modPos p f).endCall p why).conclude p) := by
  rw [State.modPos_endCall]
  exact State.conclude_of_settled (s.settle_of_inClearing p _ _ _ f h)

theorem PosState.inCall_iff (st : PosState) : st.inCall = true ↔ st ∈ [.routed, .metering, .lastUnit, .freeCall] := by
  cases st <;> simp [PosState.inCall]

theorem exec_release (p : Byte) (s : State) :
    exec (.release p) s = .next (s.request (.release p) (onPosition p releaseRule)) := rfl

theorem exec_block (p : Byte) (s : State) :
    exec (.block p) s = .next (s.request (.block p) (onPosition p blockRule)) := rfl

/-- An owner that acts on a position, given that position. -/
theorem onPosition_posByte (p : PosId) (rule : PosId → State → State × Reply) (s : State) :
    onPosition (posByte p) rule s = rule p s := by
  unfold onPosition
  rw [positionOf_posByte]

/-- A request on one position that its owner takes. -/
theorem exec_of_rule {s t : State} {p : PosId} {i : Instr} {r : Reply} {rule : PosId → State → State × Reply}
    (hx : exec i s = .next (s.request i (onPosition (posByte p) rule))) (ht : s.Takes i) (ho : rule p s = (t, r)) :
    exec i s = .next (t.answered i r) :=
  exec_of_owner hx ht ((onPosition_posByte p rule s).trans ho)

theorem State.blockPosition_inCall {s : State} {p : PosId} (h : (s.pos p).state.inCall = true) :
    s.blockPosition p = ((s.modPos p (·.setBlockPending)).endCall p .blocked).conclude p := by
  unfold State.blockPosition
  cases hs : (s.pos p).state <;> simp_all [PosState.inCall]

/-- Settles O7: each of the five is an ender, followed by the end of its event. -/
theorem endersTakeCallToClearing : Obligations.EndersTakeCallToClearing := by
  unfold Obligations.EndersTakeCallToClearing
  intro s p hs
  have hin := (PosState.inCall_iff _).mpr hs
  refine ⟨fun hf hc hl => ⟨_, exec_hook_accepted hf hc, ?_⟩, fun hf hc => ⟨_, exec_line_accepted hf hc, ?_⟩,
    fun ht hl => ?_, fun ht hl => ?_, fun hr hone hl => ?_⟩
  · have heq : (s.modPos p fun x => { x with hook := .acceptedAt .on }).hookAccepted p .on =
        (s.modPos p fun x => { x with hook := .acceptedAt .on, changed := true }).endCall p .hungUp := by
      unfold State.hookAccepted
      dsimp only
      rw [State.modPos_pos_self, if_pos (by simpa using hin), State.modPos_modPos]
    rw [heq]
    exact State.ender_upToGrants (s := s) (fun x => { x with hook := .acceptedAt .on, changed := true }) .hungUp hl
  · have heq : (s.modPos p fun x => { x with line := .acceptedAt .clearback }).lineAccepted p .clearback =
        (s.modPos p fun x => { x with line := .acceptedAt .clearback }).endCall p .farEnd := by
      unfold State.lineAccepted
      dsimp only
      rw [State.modPos_pos_self, if_pos hin]
    rw [heq]
    exact State.ender_upToGrants (s := s) (fun x => { x with line := .acceptedAt .clearback }) .farEnd (.inl nofun)
  · refine ⟨_, exec_of_rule (exec_release _ s) ht (t := (s.endCall p .host).conclude p) (if_pos hin), ?_⟩
    · have h := State.ender_upToGrants (s := s) (p := p) id .host hl
      rw [State.modPos_eq_self (f := id) rfl] at h
      exact h.answered _ _
  · refine ⟨_, exec_of_rule (exec_block _ s) ht (t := s.blockPosition p) rfl, ?_⟩
    · rw [State.blockPosition_inCall hin]
      exact (State.ender_upToGrants (s := s) (·.setBlockPending) .blocked hl).answered _ _
  · refine ⟨(s.endCall p .noAnswer).conclude p, ?_, ?_⟩
    · change Host.Outcome.next (if _ then _ else s) = _
      rw [if_pos (by simp [Position.oneShotDue, hone, hr])]
    · have h := State.ender_upToGrants (s := s) (p := p) id .noAnswer hl
      rwa [State.modPos_eq_self (f := id) rfl] at h

/-! ### The answer procedure -/

theorem TariffStore.lookup_eq (t : TariffStore) (c : Fin 16) : t.lookup c = t.active.entry c t.band := rfl

theorem TariffEntry.usable_iff (e : TariffEntry) : e.usable = true ↔ e.defined = true ∧ e.period ≠ 0 := by
  simp [TariffEntry.usable]

/-- The last-unit test written out, at a position of which the in-use step is known (R70). -/
theorem Position.lastUnitTest_of_step {x : Position} {n : Nat} (h : x.step = some n) (hs : x.state = .metering) :
    x.lastUnitTest = if x.remaining < x.debt + n then x.enterLastUnit else x := by
  unfold Position.lastUnitTest
  rw [h]
  simp [hs]

/-- A call answered at a usable entry: charged, metering, and in LAST_UNIT where too little is left (R67, R70). -/
def Position.answeredAt (now : Word32) (band : Fin 4) (edition : Byte) (e : TariffEntry) (c : Call) (n : Nat)
    (x : Position) : Position :=
  let last : Bool := x.remaining < x.debt + n + e.step
  { x with
    state := if last then .lastUnit else .metering
    lineEnable := true
    forcedClear := false
    tone := last
    refusal := none
    changed := true
    unitTimer := { count := e.period.toNat, running := true }
    oneShot := if last then { kind := .tone, count := 150 } else { x.oneShot with kind := .stopped }
    debt := x.debt + n
    call := some
      { c with
        answer := some now
        tariff := some { period := e.period.toNat, step := e.step, follow := e.follow }
        segments := [{ band := band, edition := edition, units := n }]
        charged := c.charged + n } }

theorem Position.answeredAt_eq {x : Position} {c : Call} (hc : x.call = some c) (now : Word32) (band : Fin 4)
    (edition : Byte) (e : TariffEntry) (n : Nat) :
    ((((x.mapCall fun c => { c with answer := some now }).mapCall (·.openTariff e band edition)).charged n).startMetering
      e.period.toNat).lastUnitTest = x.answeredAt now band edition e c n := by
  have hy : (((x.mapCall fun c => { c with answer := some now }).mapCall (·.openTariff e band edition)).charged
      n).startMetering e.period.toNat =
      { x with
        state := .metering
        lineEnable := true
        forcedClear := false
        tone := false
        refusal := none
        changed := true
        unitTimer := { count := e.period.toNat, running := true }
        oneShot := { x.oneShot with kind := .stopped }
        debt := x.debt + n
        call := some
          { c with
            answer := some now
            tariff := some { period := e.period.toNat, step := e.step, follow := e.follow }
            segments := [{ band := band, edition := edition, units := n }]
            charged := c.charged + n } } := by
    simp [Position.startMetering, Position.enter, Position.charged, Position.mapCall, hc, Call.openTariff, Call.charge,
      TariffEntry.inUse, addToLast, PosState.inCall, OneShot.stop]
  rw [hy, Position.lastUnitTest_of_step (n := e.step) rfl rfl]
  unfold Position.answeredAt
  dsimp only
  by_cases hlast : x.remaining < x.debt + n + e.step
  · rw [if_pos hlast]
    simp [hlast, Position.enterLastUnit, Position.enter, PosState.inCall, PosState.metered, Config.tonePeriods]
  · rw [if_neg hlast]
    simp [hlast]

theorem Position.answeredAt_state (now : Word32) (band : Fin 4) (edition : Byte) (e : TariffEntry) (c : Call) (n : Nat)
    (x : Position) :
    (x.answeredAt now band edition e c n).state ≠ .clearing ∧ (x.answeredAt now band edition e c n).state ≠ .recovering := by
  unfold Position.answeredAt
  dsimp only
  split <;> exact ⟨nofun, nofun⟩

section
variable {s : State} {p : PosId} {c : Call} (hc : (s.pos p).call = some c)
include hc

/-- What the answer procedure finds of the call. -/
theorem State.answered_call (now : Word32) :
    ((s.modPos p (·.mapCall fun c => { c with answer := some now })).pos p).call = some { c with answer := some now } := by
  rw [State.modPos_pos_self]
  simp [Position.mapCall, hc]

theorem State.answerCall_usable (hu : (s.tariff.lookup c.cls).usable = true) :
    s.answerCall p =
      { (s.modPos p (·.answeredAt s.link.stamp s.tariff.band s.tariff.edition (s.tariff.lookup c.cls) c
          (answerCharge (s.tariff.lookup c.cls) (s.pos p)))) with
        acct := { s.acct with totals :=
          { s.acct.totals with
            charged := s.acct.totals.charged + BitVec.ofNat 32 (answerCharge (s.tariff.lookup c.cls) (s.pos p))
            answered := s.acct.totals.answered + 1 } } } := by
  unfold State.answerCall
  simp only [State.answered_call hc, hu, if_true]
  have hn : answerCharge (s.tariff.lookup c.cls) (((s.modPos p (·.mapCall fun c =>
      { c with answer := some s.link.stamp })).modPos p (·.mapCall (·.openTariff (s.tariff.lookup c.cls) s.tariff.band
        s.tariff.edition))).pos p) = answerCharge (s.tariff.lookup c.cls) (s.pos p) := by
    rw [State.modPos_pos_self, State.modPos_pos_self]
    rfl
  rw [hn, State.modPos_modPos, State.charge_def, State.modPos_modPos]
  generalize answerCharge (s.tariff.lookup c.cls) (s.pos p) = n
  refine State.ext_views (fun q => Eq.trans ?_ (s.modPos_pos p q _).symm) (fun _ => rfl) rfl rfl rfl rfl rfl rfl rfl rfl
  rw [State.modTotals_pos, State.modPos_pos, State.reportCharged_pos, State.reportCharged_pos, State.modPos_pos,
    State.modPos_pos, if_pos rfl, Position.answeredAt_eq hc]
  split <;> rfl

theorem State.answerCall_unusable (hu : (s.tariff.lookup c.cls).usable = false) :
    s.answerCall p =
      (s.modPos p fun x => { x with call := some { c with answer := some s.link.stamp } }).endCall p .tariffUndefined := by
  unfold State.answerCall
  simp only [State.answered_call hc, hu]
  refine congrArg (fun u : State => u.endCall p .tariffUndefined) (State.modPos_congr ?_)
  simp [Position.mapCall, hc]

end

/-- Settles O8: the answer stamp is set first, and the entry looked up decides the rest. -/
theorem answerRunsProcedure : Obligations.AnswerRunsProcedure := by
  unfold Obligations.AnswerRunsProcedure
  intro s p c hf hc hs hcall e n last
  let s0 := s.modPos p fun x => { x with line := .acceptedAt .answer }
  have hp0 : s0.pos p = { s.pos p with line := .acceptedAt .answer } := State.modPos_pos_self ..
  have hcall0 : (s0.pos p).call = some c := by rw [hp0]; exact hcall
  have hline : s0.lineAccepted p .answer = s0.answerCall p := by
    unfold State.lineAccepted
    dsimp only
    rw [hp0, if_pos hs]
  have hexec := exec_line_accepted hf hc
  rw [show State.lineAccepted _ p .answer = _ from hline] at hexec
  constructor
  · intro hd hper
    refine ⟨_, hexec, ?_⟩
    rw [State.answerCall_usable hcall0 ((TariffEntry.usable_iff _).mpr ⟨hd, hper⟩), hp0]
    have hp : ∀ f : Position → Position, (s0.modPos p f).pos p = f (s0.pos p) := fun f => State.modPos_pos_self ..
    refine State.UpToGrants.trans (State.UpToGrants.of_eq ?_) (State.conclude_of_other
      (fun hst => (Position.answeredAt_state ..).1 ((congrArg Position.state (hp _)).symm.trans hst))
      (fun hst => (Position.answeredAt_state ..).2 ((congrArg Position.state (hp _)).symm.trans hst)))
    rw [State.modPos_modPos]
    refine congrArg (fun u : State =>
      { u with acct := { s.acct with totals :=
        { s.acct.totals with
          charged := s.acct.totals.charged + BitVec.ofNat 32 n
          answered := s.acct.totals.answered + 1 } } }) (State.modPos_congr ?_)
    rfl
  · intro hu
    refine ⟨_, hexec, ?_⟩
    have huse : (s0.tariff.lookup c.cls).usable = false := by
      rw [Bool.eq_false_iff]
      exact fun h => by
        obtain ⟨h1, h2⟩ := (TariffEntry.usable_iff _).mp h
        exact hu.elim (fun h3 => absurd (h1.symm.trans h3) nofun) h2
    rw [State.answerCall_unusable hcall0 huse, State.modPos_modPos]
    exact State.ender_upToGrants (s := s)
      (fun x => { x with line := .acceptedAt .answer, call := some { c with answer := some s.link.stamp } })
      .tariffUndefined (.inl nofun)

end Sys2Proof.Machine
end

section
/-!
PROOFS. The unit expiries: what METERING and LAST_UNIT charge, the recopy of a tariff, and the ends of calls by the debt
ceiling and by the card (R55, R68 to R71).
-/

namespace Sys2Proof.Machine

/-! ### Expiries -/

/-- A charge and a change of the position it is charged to. -/
theorem State.charge_modPos (s : State) (p : PosId) (n : Nat) (f : Position → Position) :
    (s.charge p n).modPos p f =
      { (s.modPos p fun x => f (x.charged n)) with acct := s.acct.plusCharged n } := by
  refine State.ext_views (fun q => Eq.trans ?_ (s.modPos_pos p q fun x => f (x.charged n)).symm) (fun _ => rfl) rfl rfl rfl rfl rfl rfl rfl rfl
  rw [State.modPos_pos, State.charge_pos]
  split
  · rfl
  · next hq => rw [State.charge_def, State.reportCharged_pos, State.modPos_pos_ne _ hq]

/-- The end of an event after a charge, at a position left in a state with nothing to settle. -/
theorem State.charged_upToGrants {s t : State} {p : PosId} {n : Nat} {f : Position → Position}
    (h : t = { (s.modPos p f) with acct := s.acct.plusCharged n }) (h1 : (f (s.pos p)).state ≠ .clearing)
    (h2 : (f (s.pos p)).state ≠ .recovering) :
    State.UpToGrants { (s.modPos p f) with acct := s.acct.plusCharged n } (t.conclude p) := by
  have hp : t.pos p = f (s.pos p) := by rw [h]; exact State.modPos_pos_self ..
  exact h ▸ State.conclude_of_other (hp ▸ h1) (hp ▸ h2)

/-- What a charge has left of the positions. -/
theorem State.UpToGrants.of_charged {s t : State} {p : PosId} {n : Nat} {f : Position → Position}
    (h : State.UpToGrants { (s.modPos p f) with acct := s.acct.plusCharged n } t) :
    (f (s.pos p)).SameButOp (t.pos p) ∧ ∀ q, q ≠ p → (s.pos q).SameButOp (t.pos q) := by
  have hpos (q : PosId) : (if q = p then f (s.pos p) else s.pos q).SameButOp (t.pos q) := by
    have hq := h.pos q
    rwa [show State.pos { (s.modPos p f) with acct := s.acct.plusCharged n } q = _ from s.modPos_pos p q f] at hq
  exact ⟨by simpa using hpos p, fun q hq => by simpa [hq] using hpos q⟩

section
variable {s : State} {p : PosId}

theorem exec_unitExpiry_metering (h1 : (s.pos p).unitTimer = { count := 0, running := true })
    (h2 : (s.pos p).state = .metering) :
    exec (.unitExpiry p) s = .next ((s.meteringExpiry p).conclude p) := by
  change execUnitExpiry p s = _
  unfold execUnitExpiry
  rw [if_pos (by simp [Position.unitExpiryDue, h1]), h2]

theorem exec_unitExpiry_lastUnit (h1 : (s.pos p).unitTimer = { count := 0, running := true })
    (h2 : (s.pos p).state = .lastUnit) :
    exec (.unitExpiry p) s = .next ((s.lastUnitExpiry p).conclude p) := by
  change execUnitExpiry p s = _
  unfold execUnitExpiry
  rw [if_pos (by simp [Position.unitExpiryDue, h1]), h2]

end

/-- A position metering on after an expiry, with its call and its debt as told: the timer reloaded with the period of the
tariff in use, and LAST_UNIT where less than its step is left (R68, R70). -/
def Position.meteredOn (c : Call) (k : InUseTariff) (debt : Nat) (x : Position) : Position :=
  let last : Bool := x.remaining < debt + k.step
  let y : Position := { x with debt := debt, call := some c, unitTimer := { count := k.period, running := true } }
  if last then
    { y with
      state := .lastUnit
      lineEnable := true
      forcedClear := false
      tone := true
      refusal := none
      changed := true
      oneShot := { kind := .tone, count := 150 } }
  else y

theorem Position.meteredOn_eq {x : Position} {c : Call} {k : InUseTariff} (hs : x.state = .metering)
    (ht : x.unitTimer.running = true) (hk : c.tariff = some k) (debt : Nat) :
    Position.lastUnitTest (Position.reload { x with debt := debt, call := some c }) = x.meteredOn c k debt := by
  have hy : Position.reload { x with debt := debt, call := some c } =
      { x with debt := debt, call := some c, unitTimer := { count := k.period, running := true } } := by
    simp [Position.reload, hk, ht]
  have hl := Position.lastUnitTest_of_step (n := k.step)
    (x := { x with debt := debt, call := some c, unitTimer := { count := k.period, running := true } })
    (by simp [Position.step, hk]) hs
  rw [hy, hl]
  unfold Position.meteredOn
  dsimp only
  by_cases hlast : x.remaining < debt + k.step
  · rw [if_pos hlast]
    simp [hlast, Position.enterLastUnit, Position.enter, PosState.inCall, PosState.metered, Config.tonePeriods]
  · rw [if_neg hlast]
    simp [hlast]

theorem Position.meteredOn_state {x : Position} (hs : x.state = .metering) (c : Call) (k : InUseTariff) (debt : Nat) :
    (x.meteredOn c k debt).state = if x.remaining < debt + k.step then .lastUnit else .metering := by
  unfold Position.meteredOn
  dsimp only
  split
  · next h => simp_all
  · next h => simp_all

theorem Position.meteredOn_fields (c : Call) (k : InUseTariff) (debt : Nat) (x : Position) :
    (x.meteredOn c k debt).call = some c ∧ (x.meteredOn c k debt).debt = debt ∧
      (x.meteredOn c k debt).unitTimer = { count := k.period, running := true } := by
  unfold Position.meteredOn
  dsimp only
  split <;> exact ⟨rfl, rfl, rfl⟩

theorem Position.meteredOn_other {x : Position} (hs : x.state = .metering) (c : Call) (k : InUseTariff) (debt : Nat) :
    (x.meteredOn c k debt).state ≠ .clearing ∧ (x.meteredOn c k debt).state ≠ .recovering := by
  rw [Position.meteredOn_state hs]
  split <;> exact ⟨nofun, nofun⟩

/-- A charge at a position whose call is known. -/
theorem Position.charged_eq {x : Position} {c : Call} (h : x.call = some c) {gs : List Segment} {g : Segment}
    (hg : c.segments = gs ++ [g]) (n : Nat) :
    x.charged n = { x with debt := x.debt + n, call := some (c.charging n gs g) } := by
  simp [Position.charged, Position.mapCall, h, Call.charge_eq hg]

/-- Settles O11. -/
theorem unitExpiryChargesStep : Obligations.UnitExpiryChargesStep := by
  unfold Obligations.UnitExpiryChargesStep
  intro s p c k gs g hs ht hc hk hb hg hle last
  refine ⟨_, exec_unitExpiry_metering ht hs, ?_⟩
  have heq : s.meteringExpiry p =
      { (s.modPos p fun x => x.meteredOn (c.charging k.step gs g) k (x.debt + k.step)) with
        acct := s.acct.plusCharged k.step } := by
    rw [State.meteringExpiry_eq hc hk hb hle, State.charge_modPos]
    refine congrArg (fun u : State => { u with acct := s.acct.plusCharged k.step }) (State.modPos_congr ?_)
    rw [Position.charged_eq hc hg]
    exact Position.meteredOn_eq (c := c.charging k.step gs g) hs (by rw [ht]) hk _
  have hother := Position.meteredOn_other hs (c.charging k.step gs g) k ((s.pos p).debt + k.step)
  refine State.UpToGrants.trans (.of_eq ?_) (State.charged_upToGrants heq hother.1 hother.2)
  refine congrArg (fun u : State => { u with acct := s.acct.plusCharged k.step }) (State.modPos_congr ?_)
  rfl

/-! ### The recopy -/

/-- A recopy of a call whose last segment and tariff are known (R55 to R57). -/
theorem Call.recopy_eq {c : Call} {gs : List Segment} {g : Segment} {k : InUseTariff} (hg : c.segments = gs ++ [g])
    (hk : c.tariff = some k) (e : TariffEntry) (band : Fin 4) (edition : Byte) :
    let usable : Bool := e.defined && e.period ≠ 0
    let moved : Bool := usable && !(g.band = band && g.edition = edition)
    let full : Bool := 4 ≤ gs.length + 1
    c.recopy e band edition =
      { c with
        tariff := some (if usable then { period := e.period.toNat, step := e.step, follow := e.follow } else k)
        bandPending := false
        segments := gs ++ [g] ++ (if moved && !full then [{ band := band, edition := edition, units := 0 }] else [])
        merged := c.merged || (moved && full) } := by
  intro usable moved full
  have husable : e.usable = usable := by
    rw [Bool.eq_iff_iff]
    simp only [TariffEntry.usable, usable, Bool.and_eq_true, bne_iff_ne, decide_eq_true_eq]
  unfold Call.recopy
  dsimp only
  rw [husable]
  cases hu : usable with
  | false => simp [moved, hu, hk, hg]
  | true =>
    simp only [if_true]
    have hon : Call.onSegment { c with bandPending := false, tariff := some e.inUse } band edition =
        (decide (g.band = band) && decide (g.edition = edition)) := by
      simp [Call.onSegment, hg]
    rw [hon]
    cases hsame : (decide (g.band = band) && decide (g.edition = edition)) with
    | true => simp [moved, hu, hsame, hg, TariffEntry.inUse]
    | false =>
      by_cases hfull : 4 ≤ gs.length + 1
      · simp [moved, full, hu, hsame, hg, hfull, TariffEntry.inUse, Call.openSegment, Config.segmentPlaces]
      · simp [moved, full, hu, hsame, hg, hfull, TariffEntry.inUse, Call.openSegment, Config.segmentPlaces]

/-- A unit expiry in METERING that the ceiling does not cut, with a recopy due (R55, R68). -/
theorem State.meteringExpiry_recopy {s : State} {p : PosId} {c : Call} {k : InUseTariff} (h1 : (s.pos p).call = some c)
    (h2 : c.tariff = some k) (h3 : c.bandPending = true) (h4 : k.step ≤ 7 - (s.pos p).debt) :
    s.meteringExpiry p = (s.charge p k.step).modPos p fun x =>
      (x.mapCall fun c => c.recopy (s.tariff.lookup c.cls) s.tariff.band s.tariff.edition).reload.lastUnitTest := by
  unfold State.meteringExpiry
  have hn : min k.step (Config.debtCeiling - (s.pos p).debt) = k.step := Nat.min_eq_left h4
  simp only [h1, h2, hn, h3, if_true]
  rw [if_neg (Nat.lt_irrefl _)]
  unfold State.recopy
  rw [State.modPos_modPos]
  rfl

/-- Settles O12: the charge goes to the old segment, and the call recopied meters on. -/
theorem unitExpiryRecopiesTariff : Obligations.UnitExpiryRecopiesTariff := by
  unfold Obligations.UnitExpiryRecopiesTariff
  intro s p c k gs g hs ht hc hk hb hg hle e usable moved k2 full
  refine ⟨_, exec_unitExpiry_metering ht hs, ?_⟩
  generalize hc' : Call.recopy e s.tariff.band s.tariff.edition (c.charging k.step gs g) = c'
  have hrecopy := Call.recopy_eq (c := c.charging k.step gs g) (gs := gs) (g := { g with units := g.units + k.step })
    (k := k) rfl hk e s.tariff.band s.tariff.edition
  have hk2 : c'.tariff = some k2 := by rw [← hc', hrecopy]
  have heq : s.meteringExpiry p =
      { (s.modPos p fun x => x.meteredOn c' k2 (x.debt + k.step)) with acct := s.acct.plusCharged k.step } := by
    rw [State.meteringExpiry_recopy hc hk hb hle, State.charge_modPos]
    refine congrArg (fun u : State => { u with acct := s.acct.plusCharged k.step }) (State.modPos_congr ?_)
    rw [Position.charged_eq hc hg, ← Position.meteredOn_eq hs (by rw [ht]) hk2, ← hc']
    rfl
  have hother := Position.meteredOn_other hs c' k2 ((s.pos p).debt + k.step)
  have hu := State.charged_upToGrants heq hother.1 hother.2
  generalize (s.meteringExpiry p).conclude p = t at hu ⊢
  obtain ⟨hp, hne⟩ := hu.of_charged
  obtain ⟨h1, h2, h3⟩ := Position.meteredOn_fields c' k2 ((s.pos p).debt + k.step) (s.pos p)
  refine ⟨?_, ?_, ?_, ?_, hu.tariff, hu.totals, hu.link, hu.queue, hu.tear, hne⟩
  · rw [hp]
    refine h1.trans (congrArg some ?_)
    rw [← hc', hrecopy]
    rfl
  · rw [hp]
    exact h2
  · rw [hp]
    exact h3
  · have hst : (t.pos p).state = ((s.pos p).meteredOn c' k2 ((s.pos p).debt + k.step)).state := by rw [hp]
    exact hst.trans (Position.meteredOn_state hs c' k2 ((s.pos p).debt + k.step))

/-! ### Expiries that end calls -/

theorem State.modGlobal_modPos (s : State) (g : GlobalCounts → GlobalCounts) (p : PosId) (f : Position → Position) :
    (s.modGlobal g).modPos p f = (s.modPos p f).modGlobal g := rfl

/-- The end of an event whose ender follows a charge, at a call that keeps clearing. -/
theorem State.charged_ender_upToGrants {s t : State} {p : PosId} {why : EndCause} {a : Accounting}
    {f : Position → Position}
    (h : t = { (s.modPos p fun x => (f x).inClearing s.settings.clearWait s.link.stamp why) with acct := a })
    (hl : (f (s.pos p)).line.accepted ≠ some .idle ∨ 0 < (f (s.pos p)).debt) :
    State.UpToGrants { (s.modPos p fun x => (f x).inClearing s.settings.clearWait s.link.stamp why) with acct := a }
      (t.conclude p) := by
  have hp : t.pos p = (f (s.pos p)).inClearing s.settings.clearWait s.link.stamp why := by
    rw [h]
    exact State.modPos_pos_self s p fun x => (f x).inClearing s.settings.clearWait s.link.stamp why
  have hset : t.settle p = t := by
    refine t.settle_of_clearing p (by rw [hp]; rfl) ?_
    rw [hp]
    refine hl.imp (fun hl => ?_) fun hd => .inl ?_
    · exact decide_eq_true hl
    · exact Nat.ne_of_gt hd
  exact h ▸ State.conclude_of_settled hset

/-- Settles O13: the charge comes first, and its ender after it. -/
theorem unitExpiriesThatEndCalls : Obligations.UnitExpiriesThatEndCalls := by
  unfold Obligations.UnitExpiriesThatEndCalls
  constructor
  · intro s p c k gs g hs ht hc hk hg h7 hlt n
    refine ⟨_, exec_unitExpiry_metering ht hs, ?_⟩
    have hn : min k.step (Config.debtCeiling - (s.pos p).debt) = n := Nat.min_eq_right (Nat.le_of_lt hlt)
    have hcut : s.meteringExpiry p = s.debtLimitCut p k.step n := by
      unfold State.meteringExpiry
      simp only [hc, hk, hn]
      rw [if_pos hlt]
    refine State.charged_ender_upToGrants (f := fun x => { x with debt := 7, call := some (c.charging n gs g) }) ?_
      (.inr (by simp))
    rw [hcut, State.debtLimitCut, State.endCall_eq, State.modGlobal_modPos, State.charge_modPos]
    have hm : (s.modPos p fun x => (x.charged n).inClearing s.settings.clearWait s.link.stamp .debtLimit) =
        s.modPos p fun x => ({ x with debt := 7, call := some (c.charging n gs g) } : Position).inClearing
          s.settings.clearWait s.link.stamp .debtLimit := by
      refine State.modPos_congr ?_
      have h7' : (s.pos p).debt + n = 7 := Nat.add_sub_cancel' h7
      rw [Position.charged_eq hc hg, h7']
    exact congrArg (fun u : State =>
      { u with acct :=
        { (s.acct.plusCharged n) with
          global :=
            { s.acct.global with
              debtLimits := min 65535 (s.acct.global.debtLimits + 1)
              forgone := min 65535 (s.acct.global.forgone + (k.step - n)) } } }) hm
  · intro s p c k gs g hs ht hc hk hg hl n
    refine ⟨_, exec_unitExpiry_lastUnit ht hs, ?_⟩
    refine State.charged_ender_upToGrants (f := fun x => { x with debt := x.debt + n, call := some (c.charging n gs g) })
      ?_ (.inl hl)
    have hstep : (s.pos p).step = some k.step := by simp [Position.step, hc, hk]
    unfold State.lastUnitExpiry
    simp only [hstep]
    rw [State.endCall_eq, State.charge_modPos]
    refine congrArg (fun u : State => { u with acct := s.acct.plusCharged n }) (State.modPos_congr ?_)
    have hn : lastCharge k.step (s.pos p) = n := rfl
    rw [hn, Position.charged_eq hc hg]
    rfl

end Sys2Proof.Machine
end

section
/-!
PROOFS. Recoveries: how a position enters RECOVERING, by a notice, at a freed place and at the finish of CLEARING
(R36, R124 to R128, R141).
-/

namespace Sys2Proof.Machine

/-! ### The entry into RECOVERING -/

/-- Reservations are as they were where the position keeps its own. -/
theorem State.reservations_modPos {s : State} {p : PosId} {f : Position → Position}
    (h : (f (s.pos p)).reservation = (s.pos p).reservation) : (s.modPos p f).reservations = s.reservations := by
  rw [State.reservations_eq_sum, State.reservations_eq_sum]
  refine positionSum_congr fun q => ?_
  unfold Position.places
  rw [State.modPos_pos]
  split
  · next hq => rw [h, hq]
  · rfl

theorem State.admits_recovering (s : State) (p : PosId) :
    (s.modPos p (·.enter .recovering)).admits = true ↔ s.queue.records.length + s.reservations < 64 := by
  rw [State.admits_iff, State.reservations_modPos rfl]
  rfl

/-- With no place free the position waits (R125). -/
theorem State.enterRecovering_waits {s : State} {p : PosId} (h : 64 ≤ s.queue.records.length + s.reservations) :
    s.enterRecovering p = s.modPos p (·.rested .recovering) := by
  rw [State.enterRecovering_of_full]
  · exact State.modPos_congr (Position.enter_eq_rested rfl rfl _)
  · rw [Bool.eq_false_iff, Ne, State.admits_recovering]
    omega

/-- A position in RECOVERING with its reservation. -/
def Position.claiming (x : Position) : Position := { (x.rested .recovering) with reservation := true }

/-- A hand-over that leaves units to burn goes on (R128). -/
theorem State.settleHandOver_of_debt {s : State} {p : PosId} (h : (s.pos p).debt ≠ 0) : s.settleHandOver p = s := by
  unfold State.settleHandOver
  rw [if_neg]
  simp [Position.recoveryDone, h]

/-- A position in RECOVERING claims its reservation and takes its entry (R125, R141). -/
theorem State.admitRecovery_eq {s : State} {p : PosId} {k : CardKey} {t0 : TearEntry} (hk : (s.pos p).key = some k)
    (ht : s.tearEntry k = some t0) :
    s.admitRecovery p = ((s.modPos p fun x => { x with reservation := true }).handing p t0).settleHandOver p := by
  have hp : (s.modPos p fun x => { x with reservation := true }).pos p = { s.pos p with reservation := true } :=
    State.modPos_pos_self ..
  exact State.handOver_eq_handing (k := k) (by rw [hp]; exact hk) ht (by rw [hp])

/-- With a place free it claims its reservation and takes its entry (R125 to R128). -/
theorem State.enterRecovering_takes {s : State} {p : PosId} {k : CardKey} {t0 : TearEntry}
    (h : s.queue.records.length + s.reservations < 64) (hk : (s.pos p).key = some k) (ht : s.tearEntry k = some t0) :
    s.enterRecovering p = ((s.modPos p (·.claiming)).handing p t0).settleHandOver p := by
  rw [State.enterRecovering_of_place ((s.admits_recovering p).mpr h),
    State.admitRecovery_eq (s := s.modPos p (·.enter .recovering)) (k := k) (t0 := t0)
      (by rw [State.modPos_pos_self]; exact hk) ht, State.modPos_modPos]
  refine congrArg (fun u : State => (u.handing p t0).settleHandOver p) (State.modPos_congr ?_)
  rw [Position.enter_eq_rested rfl rfl]
  rfl

theorem State.handing_pos_self (s : State) (p : PosId) (t0 : TearEntry) :
    (s.handing p t0).pos p = (s.pos p).owing t0 s.link.stamp := by
  rw [State.handing_pos, if_pos rfl]

theorem State.handing_pos_ne (s : State) {p q : PosId} (t0 : TearEntry) (h : q ≠ p) :
    (s.handing p t0).pos q = (s.pos q).released t0.key := by
  rw [State.handing_pos, if_neg h]

theorem State.handing_claimed_pos (s : State) (p : PosId) (t0 : TearEntry) :
    ((s.modPos p fun x => { x with reservation := true }).handing p t0).pos p =
      Position.owing t0 s.link.stamp { s.pos p with reservation := true } := by
  rw [State.handing_pos_self, State.modPos_pos_self, State.modPos_link]

theorem State.handing_queue (s : State) (p : PosId) (t0 : TearEntry) : (s.handing p t0).queue = s.queue := by
  unfold State.handing
  simp only [State.mapPos_queue]

theorem State.handing_tear_entries (s : State) (p : PosId) (t0 : TearEntry) :
    (s.handing p t0).tear.entries = s.tear.entries.filter fun x => x.key ≠ t0.key := by
  unfold State.handing
  rfl

/-- The debt set at a hand-over depends on the entry and on the card alone (R128). -/
theorem Position.owing_debt (t0 : TearEntry) (now : Word32) (x : Position) :
    (x.owing t0 now).debt = handOverDebt t0 x.remaining := by
  rw [← Position.takeOver_eq]
  rfl

theorem State.handing_debt (s : State) (p : PosId) (t0 : TearEntry) :
    ((s.handing p t0).pos p).debt = handOverDebt t0 (s.pos p).remaining := by
  rw [State.handing_pos_self, Position.owing_debt]

/-- It goes on with the units left to burn (R128). -/
theorem State.enterRecovering_goesOn {s : State} {p : PosId} {k : CardKey} {t0 : TearEntry}
    (h : s.queue.records.length + s.reservations < 64) (hk : (s.pos p).key = some k) (ht : s.tearEntry k = some t0)
    (hd : 0 < handOverDebt t0 (s.pos p).remaining) :
    s.enterRecovering p = (s.modPos p (·.claiming)).handing p t0 := by
  rw [State.enterRecovering_takes h hk ht]
  refine State.settleHandOver_of_debt ?_
  rw [State.handing_debt, State.modPos_pos_self]
  exact Nat.ne_of_gt hd

/-! ### Notices -/

theorem exec_notice {s : State} {p : PosId} {k : CardKey} (h : (s.pos p).notice = some k) :
    exec (.listedCardNotice p) s = .next (s.takeNotice p k) := by
  change execListedCardNotice p s = _
  unfold execListedCardNotice
  rw [h]

/-- A position that waits in RECOVERING has nothing to settle. -/
theorem State.settle_of_waiting {s : State} {p : PosId} (h1 : (s.pos p).state = .recovering)
    (h2 : (s.pos p).recovery = none) : s.settle p = s := by
  unfold State.settle
  simp [Position.clearingDone, Position.recoveryDone, h1, h2]

section
variable {s : State} {p : PosId} {k : CardKey}

theorem State.takeNotice_void (h : (s.pos p).state ≠ .ready ∨ s.tearEntry k = none) :
    s.takeNotice p k = s.modPos p fun x => { x with notice := none } := by
  unfold State.takeNotice
  dsimp only
  rw [if_neg]
  simp only [Bool.and_eq_true, decide_eq_true_eq, not_and]
  intro h1 h2
  rcases h with h | h
  · exact h h1.1
  · rw [h] at h2
    cases h2

theorem State.takeNotice_listed (h1 : (s.pos p).state = .ready) (h2 : (s.pos p).key = some k)
    (h3 : s.tearEntry k ≠ none) :
    s.takeNotice p k = ((s.modPos p fun x => { x with notice := none }).enterRecovering p).conclude p := by
  unfold State.takeNotice
  dsimp only
  rw [if_pos]
  simp [h1, h2, Option.isSome_iff_ne_none, h3]

end

/-- A recovery whose entry leaves nothing to burn is recorded at its hand-over, and the card owes nothing more
(R128, R37). -/
theorem State.settleHandOver_done {s : State} {p : PosId} {r : Recovery} (h1 : (s.pos p).state = .recovering)
    (h2 : (s.pos p).recovery = some r) (h3 : (s.pos p).debt = 0) (h4 : (s.pos p).doubt = none)
    (h5 : (s.pos p).inFlight = none) (h6 : (s.pos p).card.accepted = some .present) (h7 : (s.pos p).cardLost = false) :
    s.settleHandOver p =
      (s.recorded (r.written p (s.pos p).key s.queue.nextSequence
        (if (s.pos p).remaining = 0 then .empty else .complete))).modPos p fun x =>
          ({ x with recovery := none, reservation := false } : Position).cleared := by
  unfold State.settleHandOver
  dsimp only
  rw [if_pos (by simp [Position.recoveryDone, Position.present, h1, h2, h3, h4, h5, h6, h7]), State.closeRecovery_eq h2,
    State.modPos_modPos]
  refine State.modPos_congr ?_
  rw [← Position.leaveWait_eq]
  rfl

theorem Position.cleared_state (x : Position) : x.cleared.state ≠ .clearing ∧ x.cleared.state ≠ .recovering := by
  unfold Position.cleared
  split
  · exact ⟨nofun, nofun⟩
  · split <;> exact ⟨nofun, nofun⟩

/-- Settles O25: the entry into RECOVERING decides, by the place in the queue and by what is left to burn. -/
theorem listedCardNoticeStartsRecovery : Obligations.ListedCardNoticeStartsRecovery := by
  unfold Obligations.ListedCardNoticeStartsRecovery
  intro s p k hn
  let s1 := s.modPos p fun x => { x with notice := none }
  have hp1 : s1.pos p = { s.pos p with notice := none } := State.modPos_pos_self ..
  have hres : s1.reservations = s.reservations := State.reservations_modPos rfl
  refine ⟨fun h => by rw [exec_notice hn, State.takeNotice_void h], fun h1 h2 h3 hfull hrec => ?_,
    fun t0 h1 h2 h3 hroom hr => ?_⟩
  · refine ⟨_, (exec_notice hn).trans (by rw [State.takeNotice_listed h1 h2 h3]), ?_⟩
    have hw : s1.enterRecovering p = s.modPos p fun x => { (x.rested .recovering) with notice := none } := by
      rw [State.enterRecovering_waits (by rw [hres]; exact Nat.le_of_eq hfull.symm), State.modPos_modPos]
      rfl
    rw [show State.enterRecovering _ p = _ from hw]
    refine State.conclude_of_settled (State.settle_of_waiting ?_ ?_)
    · rw [State.modPos_pos_self]
      rfl
    · rw [State.modPos_pos_self]
      exact hrec
  · intro u
    have hx := (exec_notice hn).trans (by rw [State.takeNotice_listed h1 h2 (by rw [h3]; exact nofun)])
    have hup : u.pos p = Position.owing t0 s.link.stamp
        { ((s.pos p).rested .recovering) with notice := none, reservation := true } := by
      rw [State.handing_pos_self, State.modPos_pos_self]
      rfl
    have hclaim : (s1.modPos p (·.claiming)).handing p t0 = u := by
      rw [State.modPos_modPos]
      rfl
    have hroom1 : s1.queue.records.length + s1.reservations < 64 := by rw [hres]; exact hroom
    have hk1 : (s1.pos p).key = some k := by rw [hp1]; exact h2
    constructor
    · intro hd
      refine ⟨_, hx, ?_⟩
      rw [State.enterRecovering_goesOn (t0 := t0) hroom1 hk1 h3 ?_, hclaim]
      · refine State.conclude_of_settled (u.settle_of_recovering p ?_ (.inl (Nat.ne_of_gt hd)))
        rw [hup]
        rfl
      · rw [hp1]
        rwa [hup, Position.owing_debt] at hd
    · intro hd hpres hlost hidle
      obtain ⟨r, hr⟩ : ∃ r, (u.pos p).recovery = some r := by rw [hup]; exact ⟨_, rfl⟩
      refine ⟨r, _, hr, hx, ?_⟩
      have hkey : (u.pos p).key = some k := by rw [hup]; exact h2
      have hrem : (u.pos p).remaining = (s.pos p).remaining := by rw [hup]; rfl
      have hqueue : u.queue = s.queue := by
        rw [State.handing_queue, State.modPos_queue]
      have hdone := State.settleHandOver_done (s := u) (p := p) (r := r) (by rw [hup]; rfl) hr hd (by rw [hup]; rfl)
        (by rw [hup]; exact hidle) (by rw [hup]; exact hpres) (by rw [hup]; exact hlost)
      rw [hkey, hrem, hqueue] at hdone
      rw [State.enterRecovering_takes hroom1 hk1 h3, hclaim, hdone]
      refine State.conclude_of_other ?_ ?_
      · rw [State.modPos_pos_self]
        exact (Position.cleared_state _).1
      · rw [State.modPos_pos_self]
        exact (Position.cleared_state _).2

/-! ### Freed places -/

theorem exec_recordRelease (q : Word16) (s : State) :
    exec (.recordRelease q) s = .next (s.request (.recordRelease q) (recordReleaseRule q)) := rfl

theorem recordReleaseRule_accept {s : State} {q : Word16} {r : CallRecord} {rest : List CallRecord}
    (h1 : s.queue.records = r :: rest) (h2 : r.sequence = q) :
    recordReleaseRule q s = ((s.modQueue fun q => { q with records := rest }).offerPlace, .accepted []) := by
  unfold recordReleaseRule
  rw [h1]
  dsimp only
  rw [if_pos h2]
  rfl

theorem State.offerPlace_none {s : State} (h : s.waitSet = []) : s.offerPlace = s := by
  unfold State.offerPlace
  rw [h]

theorem State.offerPlace_first {s : State} {p : PosId} {ps : List PosId} (h : s.waitSet = p :: ps) :
    s.offerPlace = (s.admitRecovery p).conclude p := by
  unfold State.offerPlace
  rw [h]

theorem State.mem_waitSet {s : State} {q : PosId} : q ∈ s.waitSet ↔ (s.pos q).waiting = true := by
  simp [State.waitSet, allPositions]

/-- Settles O45: the lowest that waits takes its entry, which releases those that wait for the same key. -/
theorem recordReleaseFreesPlace : Obligations.RecordReleaseFreesPlace := by
  unfold Obligations.RecordReleaseFreesPlace
  constructor
  · intro s q ht
    refine ⟨fun h => exec_of_owner (exec_recordRelease q s) ht ?_, fun r rest h1 h2 =>
      exec_of_owner (exec_recordRelease q s) ht ?_, fun r rest h1 h2 h3 => exec_of_owner (exec_recordRelease q s) ht ?_⟩
    · unfold recordReleaseRule
      rw [h]
      rfl
    · unfold recordReleaseRule
      rw [h1]
      dsimp only
      rw [if_neg h2]
      rfl
    · rw [recordReleaseRule_accept h1 h2, State.offerPlace_none (s := s.modQueue fun q => { q with records := rest }) h3]
      rfl
  · intro s q r rest p ps k t0 ht h1 h2 hwait hk hlist hdoubt howed hrem
    let s1 := s.modQueue fun q => { q with records := rest }
    have hmem (w : PosId) (hw : w ∈ p :: ps) : (s.pos w).state = .recovering ∧ (s.pos w).reservation = false :=
      (Position.waiting_iff _).mp (State.mem_waitSet.mp (hwait ▸ hw))
    refine ⟨_, exec_of_owner (exec_recordRelease q s) ht (recordReleaseRule_accept h1 h2), ?_⟩
    let u := (s1.modPos p fun x => { x with reservation := true }).handing p t0
    have hup : u.pos p = Position.owing t0 s.link.stamp { s.pos p with reservation := true } := by
      exact s1.handing_claimed_pos p t0
    have hdebt : (u.pos p).debt = min t0.owed (min 7 (s.pos p).remaining) := by
      rw [hup, Position.owing_debt]
      simp [handOverDebt, handOverOwed, hdoubt, Config.debtCeiling]
    have hstate : (u.pos p).state = .recovering :=
      (congrArg Position.state hup).trans (hmem p List.mem_cons_self).1
    have hne : (u.pos p).debt ≠ 0 := by rw [hdebt]; omega
    have hoffer : s1.offerPlace = u.conclude p := by
      rw [State.offerPlace_first (s := s1) hwait, State.admitRecovery_eq (s := s1) hk hlist,
        State.settleHandOver_of_debt hne]
    have hu : u.UpToGrants (u.conclude p) :=
      State.conclude_of_settled (u.settle_of_recovering p hstate (.inl hne))
    rw [show State.offerPlace _ = _ from hoffer]
    have hkey := State.tearEntry_key hlist
    have hother (w : PosId) (hw : w ≠ p) : u.pos w = (s.pos w).released k := by
      rw [State.handing_pos_ne _ t0 hw, State.modPos_pos_ne s1 hw, hkey]
      rfl
    have hreservation : (u.pos p).reservation = true := congrArg Position.reservation hup
    have hqueue : u.queue = { s.queue with records := rest } := State.handing_queue _ p t0
    have hentries : u.tear.entries = s.tear.entries.filter fun x => x.key ≠ k := hkey ▸ State.handing_tear_entries _ p t0
    generalize u.conclude p = v at hu
    clear_value u
    have hpos (w : PosId) : (u.pos w).SameButOp ((v.answered (.recordRelease q) (.accepted [])).pos w) := hu.pos w
    refine ⟨?_, ?_, ?_, hu.queue.trans hqueue, (congrArg TearList.entries hu.tear).trans hentries, fun w hw hwk => ?_,
      fun w hw hwp hwk => ?_⟩
    · rw [hpos p]
      exact hreservation
    · rw [hpos p]
      exact hstate
    · rw [hpos p]
      exact hdebt
    · have hq := hpos w
      by_cases hwp : w = p
      · exact absurd (hwp ▸ hk) hwk
      rw [hother w hwp] at hq
      rwa [show (s.pos w).released k = s.pos w from if_neg fun hc => hwk hc.2.2] at hq
    · obtain ⟨hs, hr⟩ := hmem w (List.mem_cons_of_mem p hw)
      rw [hpos w, hother w hwp]
      change ((s.pos w).released k).state ≠ _
      unfold Position.released
      rw [if_pos ⟨hs, hr, hwk⟩]
      exact (Position.cleared_state _).2

end Sys2Proof.Machine
end

section
/-!
PROOFS. The buses and their lanes: bus tests, the bus steps of an operation, and the requests on engines (R83 to R96,
R106, R109 to R111).
-/

namespace Sys2Proof.Machine

/-- Equivalent conditions choose alike. -/
theorem ite_iff_congr {α : Type} {P Q : Prop} [Decidable P] [Decidable Q] {x y : α} (h : P ↔ Q) :
    (if P then x else y) = if Q then x else y :=
  ite_congr (propext h) (fun _ => rfl) fun _ => rfl

theorem State.mapPos_congr {s : State} {f g : PosId → Position → Position} (h : ∀ q, f q (s.pos q) = g q (s.pos q)) :
    s.mapPos f = s.mapPos g := by
  unfold State.mapPos
  rw [show (fun p => f p (s.pos p)) = fun p => g p (s.pos p) from funext h]

theorem State.modEng_congr {s : State} {e : EngineId} {f g : Engine → Engine} (h : f (s.eng e) = g (s.eng e)) :
    s.modEng e f = s.modEng e g := by
  unfold State.modEng
  rw [h]

/-! ### Relief of a lane -/

theorem State.relieves_iff (s : State) (e : EngineId) :
    s.relieves e = true ↔ e ≠ reliefEngine ∧ (s.eng e).lane = .faulted ∧ (s.eng e).autoRelief = true := by
  simp [State.relieves, and_assoc]

theorem State.relieveLane_eq (s : State) (e : EngineId) :
    s.relieveLane e = s.mapPos fun p x =>
      if s.relieves e = true ∧ homeEngine p = e ∧ x.allocation = .home then x.relieve else x := by
  unfold State.relieveLane
  split
  · next h =>
    refine State.mapPos_congr fun q => ?_
    simp [h]
  · next h => exact (State.mapPos_eq_self fun q => if_neg fun hc => h hc.1).symm

theorem State.takeHome_eq (s : State) (e : EngineId) :
    s.takeHome e = s.mapPos fun p x =>
      if homeEngine p = e ∧ x.relieved = true then
        if x.inFlight = none then { x with relieved := false, allocation := .home, changed := true }
        else { x with relieved := false, pendingAlloc := some .home }
      else x := by
  refine State.mapPos_congr fun q => ?_
  cases (s.pos q).inFlight <;> simp

/-! ### Bus tests -/

theorem exec_busTestEnd {s : State} {e : EngineId} (h : (s.eng e).lane = .testing) (pass : Bool) :
    exec (.busTestEnd e pass) s = .next
      (if pass then ((s.modEng e (·.leaveTest .inService)).takeHome e).serve
        else ((s.modEng e (·.leaveTest .faulted)).relieveLane e).serve) := by
  change execBusTestEnd e pass s = _
  unfold execBusTestEnd
  rw [if_pos h]

/-- Settles O16: the lane takes its new state, its positions follow, and the engines arbitrate. -/
theorem busTestEndSetsLane : Obligations.BusTestEndSetsLane := by
  unfold Obligations.BusTestEndSetsLane
  intro s e h
  refine ⟨⟨_, exec_busTestEnd h true, ?_⟩, ⟨_, exec_busTestEnd h false, ?_⟩⟩
  · refine .trans (.of_eq ?_) (State.serve_upToGrants _)
    exact (State.takeHome_eq ..).symm
  · refine .trans (.of_eq ?_) (State.serve_upToGrants _)
    rw [State.relieveLane_eq]
    refine State.mapPos_congr fun q => ite_iff_congr ?_
    rw [State.relieves_iff, State.modEng_eng_self]
    simp only [Engine.leaveTest, true_and, and_assoc]

/-! ### Bus steps -/

/-- The operation in flight goes on to the step a bus event brings. -/
theorem State.busStep_goes {s : State} {e : EngineId} {o : EngineOp} {next : EngineOp → Option BusStep} {st : BusStep}
    (h1 : (s.eng e).op = some o) (h2 : (s.eng e).laneReset = false) (h3 : next o = some st) :
    s.busStep e next = s.opTo e st := by
  unfold State.busStep State.opTo
  rw [h1]
  dsimp only
  rw [h2, h3, if_neg Bool.false_ne_true]
  refine State.modEng_congr ?_
  rw [h1]
  rfl

section
variable {s : State} {e : EngineId} {o : EngineOp} {st : BusStep} (h1 : (s.eng e).op = some o)
  (h2 : (s.eng e).laneReset = false)
include h1 h2

theorem exec_selectAnswer {a : SelectReply} (h3 : o.afterSelect a = some st) :
    exec (.selectAnswer e a) s = .next (s.opTo e st) :=
  congrArg Host.Outcome.next (State.busStep_goes h1 h2 h3)

theorem exec_headerReadDone {b : Vector Byte 12} (h3 : o.afterHeader b = some st) :
    exec (.headerReadDone e b) s = .next (s.opTo e st) :=
  congrArg Host.Outcome.next (State.busStep_goes h1 h2 h3)

end

/-- Settles O17, by the step the operation stands at. -/
theorem selectAnswerSteps : Obligations.SelectAnswerSteps := by
  unfold Obligations.SelectAnswerSteps
  intro s e o h1 h2
  have goes {a : SelectReply} {st : BusStep} (h : o.afterSelect a = some st) := exec_selectAnswer h1 h2 h
  refine ⟨fun hs => ⟨goes ?_, goes ?_, goes ?_⟩, fun hs => ⟨goes ?_, goes ?_, goes ?_⟩,
    fun hs => ⟨goes ?_, goes ?_, goes ?_⟩⟩
  all_goals
    unfold EngineOp.afterSelect
    rw [hs]

theorem headerCheckPasses_iff (b : Vector Byte 12) :
    headerCheckPasses b = true ↔ (b.toList.map BitVec.toNat).sum % 256 = 255 := decide_eq_true_iff

/-- Settles O18, by the step the operation stands at. -/
theorem headerReadSteps : Obligations.HeaderReadSteps := by
  unfold Obligations.HeaderReadSteps
  intro s e o b h1 h2 ok key counter h back goes
  have go {st : BusStep} (h : o.afterHeader b = some st) : goes st := exec_headerReadDone h1 h2 h
  have hok : ok → headerCheckPasses b = true := (headerCheckPasses_iff b).mpr
  have hbad : ¬ok → headerCheckPasses b = false := fun hn => Bool.eq_false_iff.mpr fun hc => hn ((headerCheckPasses_iff b).mp hc)
  have hread : o.readBack (headerOf b) = back := rfl
  have hhead : headerOf b = h := rfl
  have hkey : (headerOf b).key = key := rfl
  have row := EngineOp.afterHeader.eq_def o b
  refine ⟨fun hs ho hc => go ?_, fun hs ho hc => go ?_, fun first hs hc => go ?_, fun first hs hc hf => go ?_,
    fun hs ho hc => go ?_, fun hs ho hc => go ?_, fun hs ho hc => go ?_, fun hs ho hc hk => go ?_,
    fun hs ho hc hk => go ?_, fun hs hc => go ?_, fun hs hc => go ?_, fun hs hc => go ?_, fun hs hc => go ?_⟩
  · simp [row, hs, ho, hbad hc]
  · simp [row, hs, ho, hok hc]
  · rcases hc with hc | hc
    · simp [row, hs, hbad hc]
    · simp [row, hs, hc]
  · simp [row, hs, hok hc, ← hf, hhead]
  · simp [row, hs, ho, hbad hc]
  · simp [row, hs, ho, hok hc, hhead]
  · simp [row, hs, ho, hbad hc]
  · simp [row, hs, ho, hok hc, hkey, hk]
  · simp [row, hs, ho, hok hc, hkey, hk]
  · simp [row, hs, hbad hc]
  · simp [row, hs, hok hc, hread]
  · simp [row, hs, hbad hc]
  · simp [row, hs, hok hc, hread]

/-- Settles O19, by the step the operation stands at. -/
theorem readyTimeoutAndStall : Obligations.ReadyTimeoutAndStall := by
  unfold Obligations.ReadyTimeoutAndStall
  intro s e o h1 h2
  refine ⟨fun hs => ⟨congrArg Host.Outcome.next (State.busStep_goes h1 h2 (if_pos hs)),
    congrArg Host.Outcome.next (State.busStep_goes h1 h2 (if_pos hs))⟩, fun hs => ?_⟩
  have hread : o.step.reading = true := by
    rcases hs with hs | ⟨b, hs⟩ | hs | hs <;> rw [hs] <;> rfl
  have hstall : (s.eng e).canStall = true := by simp [Engine.canStall, h1, h2, hread]
  exact congrArg Host.Outcome.next (if_pos hstall)

/-! ### Requests on engines -/

theorem onEngine_engByte (e : EngineId) (rule : EngineId → State → State × Reply) (s : State) :
    onEngine (engByte e) rule s = rule e s := by
  unfold onEngine
  rw [engineOfByte_engByte]

theorem onEngine_refuses {b : Byte} (h : 4 < b.toNat) (rule : EngineId → State → State × Reply) (s : State) :
    onEngine b rule s = (s, .refused .badValue) := by
  simp [onEngine, engineOfByte_eq_none h]

theorem exec_laneTest (b : Byte) (s : State) :
    exec (.laneTest b) s = .next (s.request (.laneTest b) (onEngine b laneTestRule)) := rfl

theorem exec_laneEnable (b : Byte) (s : State) :
    exec (.laneEnable b) s = .next (s.request (.laneEnable b) (onEngine b laneEnableRule)) := rfl

theorem exec_laneDisable (b : Byte) (s : State) :
    exec (.laneDisable b) s = .next (s.request (.laneDisable b) (onEngine b laneDisableRule)) := rfl

theorem exec_laneMode (e mode len auto : Byte) (s : State) :
    exec (.laneMode e mode len auto) s = .next (s.request (.laneMode e mode len auto) (laneModeRule e mode len auto)) :=
  rfl

/-- A request on an engine of the row is answered as its rule says. -/
theorem exec_of_engine {s t : State} {e : EngineId} {i : Instr} {r : Reply} {rule : EngineId → State → State × Reply}
    (hx : exec i s = .next (s.request i (onEngine (engByte e) rule))) (ht : s.Takes i) (h : rule e s = (t, r)) :
    exec i s = .next (t.answered i r) :=
  exec_of_owner hx ht ((onEngine_engByte e rule s).trans h)

section
variable {s : State} {e : EngineId}

theorem laneTestRule_accept (h : (s.eng e).lane = .faulted) :
    laneTestRule e s = (s.modEng e fun g => { g with lane := .testing, testTimeLeft := 50 }, .accepted []) := by
  unfold laneTestRule
  rw [if_pos h]
  rfl

theorem laneTestRule_refuse (h : (s.eng e).lane ≠ .faulted) : laneTestRule e s = (s, .refused .wrongState) := by
  unfold laneTestRule
  rw [if_neg h]
  rfl

theorem laneEnableRule_accept (h : (s.eng e).lane = .disabled) :
    laneEnableRule e s = (s.modEng e fun g => { g with lane := .testing, testTimeLeft := 50 }, .accepted []) := by
  unfold laneEnableRule
  rw [if_pos h]
  rfl

theorem laneEnableRule_refuse (h : (s.eng e).lane ≠ .disabled) : laneEnableRule e s = (s, .refused .wrongState) := by
  unfold laneEnableRule
  rw [if_neg h]
  rfl

theorem laneDisableRule_of {f : Engine → Engine} (h : (s.eng e).disable = f (s.eng e)) :
    laneDisableRule e s = (s.modEng e f, .accepted []) := by
  unfold laneDisableRule
  rw [State.modEng_congr h]
  rfl

end

theorem Engine.disable_idle {g : Engine} (h : g.lane = .testing ∨ g.lane = .faulted ∨
    (g.lane ∈ [.inService, .suspect] ∧ g.op = none)) : g.disable = { g with lane := .disabled, testTimeLeft := 0 } := by
  unfold Engine.disable
  rcases h with h | h | ⟨h, ho⟩
  · rw [h]
    rfl
  · rw [h]
    rfl
  · simp only [List.mem_cons, List.not_mem_nil, or_false] at h
    rcases h with h | h <;> simp [h, ho, Engine.leaveTest]

theorem Engine.disable_busy {g : Engine} (h : g.lane ∈ [.inService, .suspect]) (ho : g.op ≠ none) :
    g.disable = { g with disablePending := true } := by
  unfold Engine.disable
  simp only [List.mem_cons, List.not_mem_nil, or_false] at h
  rcases h with h | h <;> simp [h, Option.isSome_iff_ne_none, ho]

theorem Engine.disable_disabled {g : Engine} (h : g.lane = .disabled) : g.disable = g := by
  unfold Engine.disable
  rw [h]

theorem State.modEng_id (s : State) (e : EngineId) : s.modEng e id = s := by
  refine State.ext_views (fun _ => rfl) (fun d => ?_) rfl rfl rfl rfl rfl rfl rfl rfl
  rw [State.modEng_eng]
  split
  · next hd =>
    subst hd
    rfl
  · rfl

/-- Settles O39, by the lane state. -/
theorem laneTestEnableAndDisable : Obligations.LaneTestEnableAndDisable := by
  unfold Obligations.LaneTestEnableAndDisable
  constructor
  · intro s
    refine ⟨fun e ht => ⟨fun h => ?_, fun h => ?_⟩, fun e ht => ⟨fun h => ?_, fun h => ?_⟩, fun b hb ht => ?_,
      fun b hb ht => ?_⟩
    · exact exec_of_engine (exec_laneTest _ s) ht (laneTestRule_accept h)
    · exact exec_of_engine (exec_laneTest _ s) ht (laneTestRule_refuse h)
    · exact exec_of_engine (exec_laneEnable _ s) ht (laneEnableRule_accept h)
    · exact exec_of_engine (exec_laneEnable _ s) ht (laneEnableRule_refuse h)
    · exact exec_of_owner (exec_laneTest b s) ht (onEngine_refuses hb laneTestRule s)
    · exact exec_of_owner (exec_laneEnable b s) ht (onEngine_refuses hb laneEnableRule s)
  · intro s e ht
    have goes {f : Engine → Engine} (h : (s.eng e).disable = f (s.eng e)) :=
      exec_of_engine (exec_laneDisable _ s) ht (laneDisableRule_of h)
    refine ⟨fun h => goes (Engine.disable_idle h), fun h ho => goes (Engine.disable_busy h ho), fun h => ?_⟩
    have := goes (f := id) (Engine.disable_disabled h)
    rwa [State.modEng_id] at this

theorem orderModeOf_code (m : OrderMode) : orderModeOf (BitVec.ofNat 8 m.code) = some m := by
  cases m <;> rfl

theorem orderModeOf_eq_none {b : Byte} (h : 1 < b.toNat) : orderModeOf b = none := by
  unfold orderModeOf
  rw [if_neg, if_neg]
  all_goals
    rintro rfl
    revert h
    decide

/-- A mark turned on at a FAULTED lane relieves its positions at once (R109, R110). -/
theorem setLaneMode_upToGrants {s : State} {e : EngineId} {auto : Bool} (h : ¬(e = reliefEngine ∧ auto = true))
    (m : OrderMode) (len : Nat) :
    ((s.modEng e (·.setMode e m len auto)).mapPos fun p x =>
      if auto = true ∧ (s.eng e).autoRelief = false ∧ (s.eng e).lane = .faulted ∧ homeEngine p = e ∧
          x.allocation = .home then x.relieve
      else x).UpToGrants (setLaneMode e m len auto s) := by
  unfold setLaneMode
  dsimp only
  split
  · next hon =>
    simp only [Bool.and_eq_true, Bool.not_eq_true'] at hon
    have he : e ≠ reliefEngine := fun he => h ⟨he, hon.1⟩
    refine .trans (.of_eq ?_) (State.serve_upToGrants _)
    rw [State.relieveLane_eq]
    refine State.mapPos_congr fun q => ite_iff_congr ?_
    rw [State.relieves_iff, State.modEng_eng_self]
    simp [Engine.setMode, he, hon]
  · next hoff =>
    refine .of_eq (State.mapPos_eq_self fun q => if_neg fun hc => hoff ?_)
    simp [hc.1, hc.2.1]

section
variable {e m len auto : Byte} {s : State}

theorem laneModeRule_accept {k : EngineId} {o : OrderMode} {a : Bool} (h1 : engineOfByte e = some k)
    (h2 : orderModeOf m = some o) (h3 : markOf auto = some a) (h4 : 1 ≤ len.toNat) (h5 : len.toNat ≤ 8)
    (h6 : ¬(k = reliefEngine ∧ a = true)) : laneModeRule e m len auto s = (setLaneMode k o len.toNat a s, .accepted []) := by
  unfold laneModeRule
  rw [h1, h2, h3]
  exact if_pos ⟨h4, h5, h6⟩

/-- The rule refuses where no values of the row stand for the bytes. -/
theorem laneModeRule_refuse (h : ∀ k o a, engineOfByte e = some k → orderModeOf m = some o → markOf auto = some a →
    ¬(1 ≤ len.toNat ∧ len.toNat ≤ 8 ∧ ¬(k = reliefEngine ∧ a = true))) :
    laneModeRule e m len auto s = (s, .refused .badValue) := by
  unfold laneModeRule
  split
  · next k o a h1 h2 h3 => exact if_neg (h k o a h1 h2 h3)
  · rfl

end

/-- Settles O40: the settings of the engine, and the relief of its positions where the mark turns on at a FAULTED
lane. -/
theorem laneModeSetsEngine : Obligations.LaneModeSetsEngine := by
  unfold Obligations.LaneModeSetsEngine
  constructor
  · intro s e m len auto i ht h1 h8 hrelief
    have hrule := laneModeRule_accept (s := s) (engineOfByte_engByte e) (orderModeOf_code m) (markOf_bit auto) h1 h8 hrelief
    exact ⟨_, exec_of_owner (exec_laneMode _ _ _ _ s) ht hrule, (setLaneMode_upToGrants hrelief m len.toNat).answered _ _⟩
  · intro s e m len auto ht h
    refine exec_of_owner (exec_laneMode _ _ _ _ s) ht (laneModeRule_refuse fun k o a he hm ha hok => ?_)
    obtain ⟨h1, h8, hrelief⟩ := hok
    rcases h with h | h | h | h | h | ⟨rfl, rfl⟩
    · rw [engineOfByte_eq_none h] at he
      cases he
    · rw [orderModeOf_eq_none h] at hm
      cases hm
    · omega
    · omega
    · rw [markOf_eq_none h] at ha
      cases ha
    · refine hrelief ⟨?_, ?_⟩
      · exact (Option.some.inj he).symm
      · exact (Option.some.inj ha).symm

end Sys2Proof.Machine
end

section
/-!
PROOFS. The requests on positions: ROUTE, RELEASE, BLOCK, UNBLOCK, FREEZE, PROFILE and ALLOCATE (R7, R8, R26 to R28,
R34, R38 to R41, R107 to R109).
-/

namespace Sys2Proof.Machine

/-! ### A field above the row -/

theorem onPosition_refuses {b : Byte} (h : 48 ≤ b.toNat) (rule : PosId → State → State × Reply) (s : State) :
    onPosition b rule s = (s, .refused .badPosition) := by
  simp [onPosition, positionOf_eq_none h]

section
variable {s : State} {b : Byte}

theorem exec_badPosition {i : Instr} {rule : PosId → State → State × Reply}
    (hx : exec i s = .next (s.request i (onPosition b rule))) (h : 48 ≤ b.toNat) (ht : s.Takes i) :
    exec i s = .next (s.answered i (.refused .badPosition)) :=
  exec_of_owner hx ht (onPosition_refuses h rule s)

theorem exec_badEngine {i : Instr} {rule : EngineId → State → State × Reply}
    (hx : exec i s = .next (s.request i (onEngine b rule))) (h : 4 < b.toNat) (ht : s.Takes i) :
    exec i s = .next (s.answered i (.refused .badValue)) :=
  exec_of_owner hx ht (onEngine_refuses h rule s)

end

theorem exec_position (b : Byte) (s : State) :
    exec (.position b) s = .next (s.request (.position b) (onPosition b positionRule)) := rfl

theorem exec_route (b v : Byte) (s : State) :
    exec (.route b v) s = .next (s.request (.route b v) (onPosition b (routeRule v))) := rfl

theorem exec_unblock (b : Byte) (s : State) :
    exec (.unblock b) s = .next (s.request (.unblock b) (onPosition b unblockRule)) := rfl

theorem exec_profile (b v : Byte) (s : State) :
    exec (.profile b v) s = .next (s.request (.profile b v) (onPosition b (profileRule v))) := rfl

theorem exec_freeze (b v : Byte) (s : State) :
    exec (.freeze b v) s = .next (s.request (.freeze b v) (onPosition b (freezeRule v))) := rfl

theorem exec_allocate (b v : Byte) (s : State) :
    exec (.allocate b v) s = .next (s.request (.allocate b v) (onPosition b (allocateRule v))) := rfl

/-- Settles O38: the owner of each request tests its position or its engine first. -/
theorem fieldsAboveTheRowAreRefused : Obligations.FieldsAboveTheRowAreRefused := by
  unfold Obligations.FieldsAboveTheRowAreRefused
  intro s b v w u
  refine ⟨fun h => ?_, fun h => ?_⟩
  · simp only [List.forall_mem_cons]
    exact ⟨exec_badPosition (exec_position b s) h, exec_badPosition (exec_route b v s) h,
      exec_badPosition (exec_release b s) h, exec_badPosition (exec_block b s) h, exec_badPosition (exec_unblock b s) h,
      exec_badPosition (exec_profile b v s) h, exec_badPosition (exec_freeze b v s) h,
      exec_badPosition (exec_allocate b v s) h, nofun⟩
  · simp only [List.forall_mem_cons]
    refine ⟨fun ht => exec_of_owner (exec_laneMode b v w u s) ht (laneModeRule_refuse fun k o a hk _ _ => ?_),
      exec_badEngine (exec_laneDisable b s) h, exec_badEngine (exec_laneEnable b s) h,
      exec_badEngine (exec_laneTest b s) h, nofun⟩
    rw [engineOfByte_eq_none h] at hk
    cases hk

/-! ### ROUTE -/

theorem TariffEntry.isFree_iff (e : TariffEntry) : e.isFree = true ↔ e.defined = true ∧ e.period = 0 := by
  simp [TariffEntry.isFree]

/-- The refusal of the first test of a list that fails. -/
def firstFailing : List (Bool × RefusalCode) → Option RefusalCode
  | [] => none
  | (true, _) :: l => firstFailing l
  | (false, code) :: _ => some code

theorem firstFailing_append {before : List (Bool × RefusalCode)} (h : ∀ x ∈ before, x.1 = true) (code : RefusalCode)
    (after : List (Bool × RefusalCode)) : firstFailing (before ++ (false, code) :: after) = some code := by
  induction before with
  | nil => rfl
  | cons x xs ih =>
    obtain ⟨b, c⟩ := x
    obtain rfl : b = true := h _ List.mem_cons_self
    exact ih fun y hy => h y (List.mem_cons_of_mem _ hy)

theorem firstFailing_eq_none {l : List (Bool × RefusalCode)} (h : ∀ x ∈ l, x.1 = true) : firstFailing l = none := by
  induction l with
  | nil => rfl
  | cons x xs ih =>
    obtain ⟨b, c⟩ := x
    obtain rfl : b = true := h _ List.mem_cons_self
    exact ih fun y hy => h y (List.mem_cons_of_mem _ hy)

/-- One test of a chain of refusals. -/
theorem refusal_cons {c : Prop} [Decidable c] {b : Bool} {code : RefusalCode} {r : Option RefusalCode}
    {l : List (Bool × RefusalCode)} (hc : c ↔ b = false) (hr : r = firstFailing l) :
    (if c then some code else r) = firstFailing ((b, code) :: l) := by
  cases b with
  | true => rw [if_neg (by simp [hc]), hr]; rfl
  | false => rw [if_pos (by simp [hc])]; rfl

theorem LaneState.usable_eq (l : LaneState) : l.usable = (decide (l = .inService) || decide (l = .suspect)) := by
  cases l <;> rfl

theorem State.admits_eq (s : State) : s.admits = decide (s.queue.records.length + s.reservations < 64) :=
  Bool.eq_iff_iff.mpr ((State.admits_iff s).trans decide_eq_true_iff.symm)

/-- The tests of a ROUTE are those of R26, in their order. -/
theorem routeRefusal_eq (s : State) (p : PosId) (c : Fin 16) : routeRefusal p c s = firstFailing (routeTests s p c) := by
  refine refusal_cons ?_ (refusal_cons ?_ (refusal_cons ?_ (refusal_cons ?_ (refusal_cons ?_ (refusal_cons ?_
    (refusal_cons ?_ rfl))))))
  · simp only [TariffStore.lookup_eq, ← TariffEntry.isFree.eq_1]
    simp
  · simp only [TariffStore.lookup_eq, ← TariffEntry.isFree.eq_1]
    simp [Classical.or_iff_not_imp_left]
  · simp
  · simp [TariffStore.lookup_eq]
  · simp only [TariffStore.lookup_eq, ← TariffEntry.isFree.eq_1]
    rw [Bool.and_eq_true, Bool.or_eq_false_iff, Bool.not_eq_true', decide_eq_false_iff_not, Nat.not_le]
    exact and_congr_right fun _ => decide_eq_true_iff
  · simp [State.admits_eq]
  · simp only [TariffStore.lookup_eq, ← TariffEntry.isFree.eq_1, LaneState.usable_eq]
    simp [and_assoc]

theorem routeRule_refuse {s : State} {p : PosId} {v : Byte} {c : Fin 16} {code : RefusalCode} (h1 : classOf v = some c)
    (h2 : routeRefusal p c s = some code) : routeRule v p s = (s, .refused code) := by
  simp [routeRule, h1, h2, refuse]

/-- Settles O33: the tests run in their order. -/
theorem routeRefusedByFirstFailingTest : Obligations.RouteRefusedByFirstFailingTest := by
  unfold Obligations.RouteRefusedByFirstFailingTest
  intro s b v ht refused
  refine ⟨fun h => exec_badPosition (exec_route b v s) h ht, fun h1 h2 => exec_of_owner (exec_route b v s) ht ?_,
    fun p c before after code hb hv htests hbefore => ?_⟩
  · have hp : positionOf b = some ⟨b.toNat, h1⟩ := dif_pos h1
    simp [onPosition, hp, routeRule, classOf_eq_none h2, refuse]
  · subst hb hv
    refine exec_of_rule (exec_route _ _ s) ht (routeRule_refuse (classOf_ofNat c) ?_)
    rw [routeRefusal_eq, htests, firstFailing_append hbefore]

/-- A call set up at a position that needs no operation and runs none (R27, R28). -/
theorem Position.inNewCall_derive {x : Position} {st : PosState} (hs : st = .routed ∨ st = .freeCall) (c : Call) (o : OneShot)
    (h1 : x.debt = 0) (h2 : x.doubt = none) (h3 : x.inFlight = none) :
    (x.inNewCall st c o).derive =
      { (x.rested st) with lineEnable := true, reservation := true, call := some c, pendingOp := none, oneShot := o } := by
  have hd : (x.inNewCall st c o).derived = none := by
    rcases hs with rfl | rfl <;> simp [Position.derived, Position.inNewCall, Position.enter, h1, h2]
  unfold Position.derive
  rw [if_neg (by simp [Position.inNewCall, Position.enter, h3]), hd]
  rcases hs with rfl | rfl <;> rfl

/-- Settles O34: with every test passed the class decides which call is created. -/
theorem acceptedRouteStartsCall : Obligations.AcceptedRouteStartsCall := by
  unfold Obligations.AcceptedRouteStartsCall
  intro s p c i e call ht htests h1 h2 h3
  have hpass : routeRefusal p c s = none := by rw [routeRefusal_eq, firstFailing_eq_none htests]
  have hdefined : e.defined = true := htests (e.defined, .tariffUndefined) (by simp [routeTests, e])
  have hrule : routeRule (BitVec.ofNat 8 c.val) p s =
      (if e.isFree then startFree p c s else startCharged p c s, .accepted []) := by
    unfold routeRule
    rw [classOf_ofNat]
    dsimp only
    rw [hpass]
    rfl
  refine ⟨fun h => exec_of_rule (exec_route _ _ s) ht (hrule.trans ?_),
    fun h => exec_of_rule (exec_route _ _ s) ht (hrule.trans ?_)⟩
  · rw [if_neg (fun hf => h ((TariffEntry.isFree_iff e).mp hf).2), startCharged_eq]
    refine congrArg (·, Reply.accepted []) (State.modPos_congr ?_)
    exact Position.inNewCall_derive (.inl rfl) _ _ h1 h2 h3
  · rw [if_pos ((TariffEntry.isFree_iff e).mpr ⟨hdefined, h⟩), startFree_eq]
    have hm : (s.modPos p fun x =>
        (x.inNewCall .freeCall (.start .free c s.link.stamp) x.oneShot.stop).derive) =
        s.modPos p fun x => { (x.rested .freeCall) with
          lineEnable := true, reservation := true, call := some (call .free), pendingOp := none } :=
      State.modPos_congr (Position.inNewCall_derive (.inr rfl) _ _ h1 h2 h3)
    rw [hm]
    rfl

/-! ### RELEASE, BLOCK and UNBLOCK -/

theorem releaseRule_clearing {s : State} {p : PosId} (h : (s.pos p).state = .clearing) :
    releaseRule p s = (s, .accepted []) := by
  simp [releaseRule, h, PosState.inCall, accept]

theorem releaseRule_refuse {s : State} {p : PosId}
    (h : (s.pos p).state ∈ [.vacant, .reading, .refused, .recovering, .ready, .blocked]) :
    releaseRule p s = (s, .refused .wrongState) := by
  have h1 : (s.pos p).state.inCall = false := by
    revert h
    cases (s.pos p).state <;> simp [PosState.inCall]
  have h2 : (s.pos p).state ≠ .clearing := fun hc => by
    rw [hc] at h
    simp at h
  simp [releaseRule, h1, h2, refuse]

section
variable {s : State} {p : PosId}

theorem State.blockPosition_idle (h : (s.pos p).state ∈ [.vacant, .ready, .refused]) :
    s.blockPosition p = (s.modPos p (·.arriveBlocked)).conclude p := by
  unfold State.blockPosition
  simp only [List.mem_cons, List.not_mem_nil, or_false] at h
  rcases h with h | h | h <;> rw [h]

theorem State.blockPosition_pending (h : (s.pos p).state = .reading ∨ (s.pos p).state = .recovering) :
    s.blockPosition p = s.modPos p fun x => { x with blockPending := true } := by
  unfold State.blockPosition
  rcases h with h | h <;> rw [h] <;> rfl

theorem State.blockPosition_clearing (h : (s.pos p).state = .clearing) :
    s.blockPosition p = (s.modPos p fun x => { x with blockPending := true }).conclude p := by
  unfold State.blockPosition
  rw [h]
  rfl

theorem State.blockPosition_blocked (h : (s.pos p).state = .blocked) : s.blockPosition p = s := by
  unfold State.blockPosition
  rw [h]

/-- A position moved to a state in which nothing is settled: the event ends with derivations and grants alone. -/
theorem State.moved_upToGrants {f g : Position → Position} (hf : f (s.pos p) = g (s.pos p))
    (h1 : (g (s.pos p)).state ≠ .clearing) (h2 : (g (s.pos p)).state ≠ .recovering) :
    (s.modPos p g).UpToGrants ((s.modPos p f).conclude p) := by
  rw [State.modPos_congr hf]
  refine State.conclude_of_other ?_ ?_ <;> rwa [State.modPos_pos_self]

end

/-- Settles O35, by the state of the position. -/
theorem releaseAndBlockOutsideCall : Obligations.ReleaseAndBlockOutsideCall := by
  unfold Obligations.ReleaseAndBlockOutsideCall
  constructor
  · intro s
    exact ⟨fun b hb => exec_badPosition (exec_release b s) hb, fun p ht =>
      ⟨fun h => exec_of_rule (exec_release _ s) ht (releaseRule_clearing h),
        fun h => exec_of_rule (exec_release _ s) ht (releaseRule_refuse h)⟩⟩
  · intro s p ht
    have goes {t : State} (h : s.blockPosition p = t) :=
      exec_of_rule (exec_block _ s) ht (show blockRule p s = (t, .accepted []) from congrArg (·, Reply.accepted []) h)
    refine ⟨fun h => ⟨_, goes (State.blockPosition_idle h), State.UpToGrants.answered ?_ _ _⟩,
      fun h => goes (State.blockPosition_pending h),
      fun h hopen => ⟨_, goes (State.blockPosition_clearing h), State.UpToGrants.answered ?_ _ _⟩,
      fun h => goes (State.blockPosition_blocked h)⟩
    · exact State.moved_upToGrants (f := (·.arriveBlocked)) (Position.arriveBlocked_eq _) nofun nofun
    · refine State.conclude_of_settled (State.settle_of_clearing _ p ?_ ?_)
      · rw [State.modPos_pos_self]
        exact h
      · rw [State.modPos_pos_self]
        rcases hopen with hopen | hopen
        · simp [hopen]
        · simp [Nat.ne_of_gt hopen]

theorem unblockRule_refuse {s : State} {p : PosId} (h : (s.pos p).state ≠ .blocked ∨ (s.pos p).profile = .unused) :
    unblockRule p s = (s, .refused .wrongState) := by
  unfold unblockRule
  rw [if_neg fun hc => h.elim (· hc.1) hc.2]
  rfl

theorem unblockRule_accept {s : State} {p : PosId} (h1 : (s.pos p).state = .blocked) (h2 : (s.pos p).profile ≠ .unused) :
    unblockRule p s = ((s.modPos p (·.unblock)).conclude p, .accepted []) := by
  unfold unblockRule
  rw [if_pos ⟨h1, h2⟩]
  rfl

theorem Position.unblock_card {x : Position} (h1 : x.profile = .card) (h2 : x.card.accepted = some .present) :
    x.unblock = { (x.rested .reading) with retry := 0 } := by
  unfold Position.unblock Position.startReading
  rw [if_pos (by simp [Position.present, h1, h2]), Position.enter_eq_rested rfl rfl]

theorem Position.unblock_empty {x : Position} (h : x.profile = .free ∨ (x.profile = .card ∧ x.card.accepted ≠ some .present)) :
    x.unblock = x.rested .vacant := by
  unfold Position.unblock
  rw [if_neg, Position.enter_eq_rested rfl rfl]
  rcases h with h | ⟨h1, h2⟩
  · simp [h]
  · simp [Position.present, h2]

/-! ### FREEZE and PROFILE -/

theorem freezeRule_accept (m : Bool) (p : PosId) (s : State) :
    freezeRule (if m then 1 else 0) p s = (s.modPos p fun x => x.refrozen { x with freezeMark := m }, .accepted []) := by
  unfold freezeRule
  rw [markOf_bit]
  rfl

theorem freezeRule_refuse {b : Byte} (h : 1 < b.toNat) (p : PosId) (s : State) :
    freezeRule b p s = (s, .refused .badValue) := by
  simp [freezeRule, markOf_eq_none h, refuse]

theorem profileOf_code (v : Profile) : profileOf (BitVec.ofNat 8 v.code) = some v := by
  cases v <;> rfl

theorem profileOf_eq_none {b : Byte} (h : 2 < b.toNat) : profileOf b = none := by
  unfold profileOf
  rw [if_neg, if_neg, if_neg]
  all_goals
    rintro rfl
    revert h
    decide

theorem profileRule_accept {s : State} {p : PosId} (v : Profile) (h : (s.pos p).state = .blocked) :
    profileRule (BitVec.ofNat 8 v.code) p s = (s.modPos p fun x => x.refrozen { x with profile := v }, .accepted []) := by
  unfold profileRule
  rw [profileOf_code]
  exact if_pos h

theorem profileRule_wrongState {s : State} {p : PosId} (v : Profile) (h : (s.pos p).state ≠ .blocked) :
    profileRule (BitVec.ofNat 8 v.code) p s = (s, .refused .wrongState) := by
  unfold profileRule
  rw [profileOf_code]
  exact if_neg h

theorem profileRule_badValue {b : Byte} (h : 2 < b.toNat) (p : PosId) (s : State) :
    profileRule b p s = (s, .refused .badValue) := by
  simp [profileRule, profileOf_eq_none h, refuse]

theorem Position.refrozen_freezeMark (m : Bool) (x : Position) :
    x.refrozen { x with freezeMark := m } =
      if x.freezeMark = true ∧ m = false ∧ x.profile ≠ .unused then ({ x with freezeMark := m } : Position).thaw
      else { x with freezeMark := m } := by
  unfold Position.refrozen
  refine ite_iff_congr ?_
  by_cases hp : x.profile = .unused <;> cases m <;> simp [Position.frozen, hp]

theorem Position.refrozen_profile (v : Profile) (x : Position) :
    x.refrozen { x with profile := v } =
      if x.profile = .unused ∧ v ≠ .unused ∧ x.freezeMark = false then ({ x with profile := v } : Position).thaw
      else { x with profile := v } := by
  unfold Position.refrozen
  refine ite_iff_congr ?_
  by_cases hp : x.profile = .unused <;> cases hm : x.freezeMark <;> simp [Position.frozen, hp, hm]

/-- Settles O36, by the state, the profile and the mark. -/
theorem unblockFreezeAndProfile : Obligations.UnblockFreezeAndProfile := by
  unfold Obligations.UnblockFreezeAndProfile
  constructor
  · intro s p ht
    refine ⟨fun h => exec_of_rule (exec_unblock _ s) ht (unblockRule_refuse h), fun h1 h2 h3 => ?_, fun h1 h2 => ?_⟩
    · refine ⟨_, exec_of_rule (exec_unblock _ s) ht (unblockRule_accept h1 (by rw [h2]; nofun)),
        State.UpToGrants.answered ?_ _ _⟩
      exact State.moved_upToGrants (f := (·.unblock)) (Position.unblock_card h2 h3) nofun nofun
    · have hused : (s.pos p).profile ≠ .unused := by rcases h2 with h2 | ⟨h2, _⟩ <;> rw [h2] <;> nofun
      refine ⟨_, exec_of_rule (exec_unblock _ s) ht (unblockRule_accept h1 hused), State.UpToGrants.answered ?_ _ _⟩
      exact State.moved_upToGrants (f := (·.unblock)) (Position.unblock_empty h2) nofun nofun
  · intro s p thawed
    refine ⟨fun b m hb ht => ?_, fun b hb ht => exec_of_rule (exec_freeze _ b s) ht (freezeRule_refuse hb p s),
      fun b v hb ht => ⟨fun h => ?_, fun h => ?_⟩,
      fun b hb ht => exec_of_rule (exec_profile _ b s) ht (profileRule_badValue hb p s)⟩
    · subst hb
      refine exec_of_rule (exec_freeze _ _ s) ht ((freezeRule_accept m p s).trans ?_)
      exact congrArg (·, Reply.accepted []) (State.modPos_congr (Position.refrozen_freezeMark m _))
    · subst hb
      refine exec_of_rule (exec_profile _ _ s) ht ((profileRule_accept v h).trans ?_)
      exact congrArg (·, Reply.accepted []) (State.modPos_congr (Position.refrozen_profile v _))
    · subst hb
      exact exec_of_rule (exec_profile _ _ s) ht (profileRule_wrongState v h)

/-! ### ALLOCATE -/

theorem allocateRule_refuse {b : Byte} (h : 1 < b.toNat) (p : PosId) (s : State) :
    allocateRule b p s = (s, .refused .badValue) := by
  have hb : allocationOf b = none := by
    unfold allocationOf
    rw [if_neg, if_neg]
    all_goals
      rintro rfl
      revert h
      decide
  simp [allocateRule, hb, refuse]

theorem allocateRule_accept (a : Allocation) (p : PosId) (s : State) :
    allocateRule (match a with | .home => 0 | .relief => 1) p s = (s.allocate p a, .accepted []) := by
  cases a <;> rfl

theorem homeEngine_ne_relief (p : PosId) : homeEngine p ≠ reliefEngine := by
  intro h
  have := congrArg Fin.val h
  simp only [homeEngine, reliefEngine] at this
  omega

section
variable {s : State} {p : PosId} {a : Allocation}

theorem State.allocate_busy (h : (s.pos p).inFlight ≠ none) :
    s.allocate p a = s.modPos p fun x => { x with relieved := false, pendingAlloc := some a } := by
  unfold State.allocate
  dsimp only
  rw [if_pos (Option.isSome_iff_ne_none.mpr h), State.modPos_modPos]

theorem State.allocate_idle (h : (s.pos p).inFlight = none) :
    s.allocate p a = ((s.modPos p fun x => { x with relieved := false }).setAllocation p a).serve := by
  unfold State.allocate
  dsimp only
  rw [if_neg (by simp [h])]

/-- An allocation takes a value: it may be followed by relief of the position (R108, R109). -/
theorem State.setAllocation_eq (s : State) (p : PosId) (a : Allocation) :
    s.setAllocation p a = s.modPos p fun x =>
      if a = .home ∧ x.allocation ≠ .home ∧ (s.eng (homeEngine p)).lane = .faulted ∧
          (s.eng (homeEngine p)).autoRelief = true then x.relieve
      else { x with allocation := a, changed := x.changed || decide (x.allocation ≠ a) } := by
  unfold State.setAllocation
  split
  · next ha =>
    refine (State.modPos_eq_self ?_).symm
    rw [if_neg fun hc => hc.2.1 (ha.trans hc.1)]
    subst ha
    simp
  · next ha =>
    have hrelieves : (a = .home && (s.modPos p fun x => { x with allocation := a, changed := true }).relieves
        (homeEngine p)) = true ↔ a = .home ∧ (s.pos p).allocation ≠ .home ∧ (s.eng (homeEngine p)).lane = .faulted ∧
          (s.eng (homeEngine p)).autoRelief = true := by
      rw [Bool.and_eq_true, decide_eq_true_iff, State.relieves_iff, State.modPos_eng]
      refine and_congr_right fun h => ?_
      subst h
      simp [homeEngine_ne_relief, ha]
    dsimp only
    rw [ite_iff_congr hrelieves, State.modPos_modPos, ← apply_ite (State.modPos s p)]
    refine State.modPos_congr ?_
    split
    · rfl
    · simp [ha]

end

/-- Settles O37: the value waits for the operation in flight, or is taken at once and may be followed by relief. -/
theorem allocateMovesPosition : Obligations.AllocateMovesPosition := by
  unfold Obligations.AllocateMovesPosition
  refine ⟨fun s p b hb ht => exec_of_rule (exec_allocate _ b s) ht (allocateRule_refuse hb p s),
    fun s p b a hb ht => ?_⟩
  subst hb
  intro relieves
  have goes {t : State} (h : s.allocate p a = t) :=
    exec_of_rule (exec_allocate _ _ s) ht ((allocateRule_accept a p s).trans (congrArg (·, Reply.accepted []) h))
  refine ⟨fun h => goes (State.allocate_busy h), fun h hr => ⟨_, goes (State.allocate_idle h), ?_⟩,
    fun h hr => ⟨_, goes (State.allocate_idle h), ?_⟩⟩
  · refine State.UpToGrants.answered (.trans (.of_eq ?_) (State.serve_upToGrants _)) _ _
    rw [State.setAllocation_eq, State.modPos_modPos]
    exact State.modPos_congr (if_neg hr).symm
  · refine State.UpToGrants.answered (.trans (.of_eq ?_) (State.serve_upToGrants _)) _ _
    rw [State.setAllocation_eq, State.modPos_modPos]
    exact State.modPos_congr (if_pos hr).symm

end Sys2Proof.Machine
end

section
/-!
PROOFS. The station link: which owner takes a request, discards, the receiver and the transmitter, the link controller's
own requests, alerts and ATTN (R153 to R162).
-/

namespace Sys2Proof.Machine

/-! ### The owner of a request -/

/-- The owner's rule of each request; a command that is no request has none. -/
def requestOwner : Instr → State → State × Reply
  | .unknownRequest type _ => unknownRequestRule type
  | .status => statusRule
  | .changes => changesRule
  | .position p => onPosition p positionRule
  | .route p cls => onPosition p (routeRule cls)
  | .release p => onPosition p releaseRule
  | .block p => onPosition p blockRule
  | .unblock p => onPosition p unblockRule
  | .profile p prof => onPosition p (profileRule prof)
  | .freeze p mark => onPosition p (freezeRule mark)
  | .allocate p alloc => onPosition p (allocateRule alloc)
  | .laneMode e mode len auto => laneModeRule e mode len auto
  | .laneDisable e => onEngine e laneDisableRule
  | .laneEnable e => onEngine e laneEnableRule
  | .laneTest e => onEngine e laneTestRule
  | .tariffStage cls band defined period step initial follow => tariffStageRule cls band defined period step initial follow
  | .tariffCopy => tariffCopyRule
  | .tariffCommit edition => tariffCommitRule edition
  | .tariffRead selector cls band => tariffReadRule selector cls band
  | .band b => bandRule b
  | .recordPeek => recordPeekRule
  | .recordRelease seq => recordReleaseRule seq
  | .tearRead index => tearReadRule index
  | .tearDelete series serial => tearDeleteRule series serial
  | .counters => countersRule
  | .snapshot => snapshotRule
  | .set code value => setRule code value
  | .clock stamp => clockRule stamp
  | .clearAlerts alerts => clearAlertsRule alerts
  | .linkRate code => linkRateRule code
  | .restart => restartRule
  | .powerOnReset | .inputSample _ _ | .meteringTick | .unitExpiry _ | .answerWaitExpiry _ | .toneExpiry _
  | .clearWaitExpiry _ | .stampAdvance | .snapshotIntervalExpiry | .busTestEnd _ _ | .selectAnswer _ _
  | .headerReadDone _ _ | .readySignal _ | .burnTimeout _ | .busStall _ | .identifyCompletion _
  | .verifyCompletion _ | .burnCompletion _ | .listedCardNotice _ | .frameDiscard _ | .frameGapTimeout
  | .responseSent | .linkByteReceived _ => accept

theorem exec_unknownRequest {type : Byte} {body : List Byte} (h : refusedByLink type body = true) (s : State) :
    exec (.unknownRequest type body) s =
      .next (s.request (.unknownRequest type body) (unknownRequestRule type)) := by
  change execUnknownRequest type body s = _
  unfold execUnknownRequest
  rw [if_pos h]

/-- A request is run by its owner. -/
theorem exec_request {c : Instr} (h : isRequest c = true) (hw : c.WellFormed = true) (s : State) :
    exec c s = .next (s.request c (requestOwner c)) := by
  cases c
  case unknownRequest type body => exact exec_unknownRequest ((Bool.and_eq_true _ _).mp hw).2 s
  case status | changes | position | route | release | block | unblock | profile | freeze | allocate | laneMode
      | laneDisable | laneEnable | laneTest | tariffStage | tariffCopy | tariffCommit | tariffRead | band | recordPeek
      | recordRelease | tearRead | tearDelete | counters | snapshot | set | clock | clearAlerts | linkRate
      | restart => rfl
  all_goals cases h

/-! ### Discards -/

theorem unknownRequestRule_type {type : Byte} (h : requestLength type = none) (s : State) :
    unknownRequestRule type s = (s, .refused .unknownRequest) := by
  simp [unknownRequestRule, h, refuse]

theorem unknownRequestRule_length {type : Byte} {n : Nat} (h : requestLength type = some n) (s : State) :
    unknownRequestRule type s = (s, .refused .badLength) := by
  simp [unknownRequestRule, h, refuse]

/-- Settles O26: one discard, whatever its reason; a frame no owner takes is refused. -/
theorem discardsAndUnknownRequests : Obligations.DiscardsAndUnknownRequests := by
  unfold Obligations.DiscardsAndUnknownRequests
  refine ⟨fun s => ⟨fun why => rfl, rfl, fun c hc hw h1 h2 => ?_⟩, fun s type body ht => ⟨fun h => ?_, fun n h hn => ?_⟩⟩
  · rw [exec_request hc hw, State.request_of_overrun h1 h2]
    rfl
  · exact exec_of_owner (exec_unknownRequest (by simp [refusedByLink, h]) s) ht (unknownRequestRule_type h s)
  · exact exec_of_owner (exec_unknownRequest (by simpa [refusedByLink, h] using Ne.symm hn) s) ht
      (unknownRequestRule_length h s)

/-! ### The receiver and the transmitter -/

theorem exec_linkByteReceived (b : Byte) (s : State) :
    exec (.linkByteReceived b) s = .next
      (match s.link.receiver with
      | .hunting => if b = Config.syncByte then s.modLink fun l => { l with receiver := .inFrame [] } else s
      | .inFrame bytes => s.frameByte bytes b) := rfl

section
variable {s : State} {b : Byte}

theorem exec_byte_hunting (h : s.link.receiver = .hunting) :
    exec (.linkByteReceived b) s = .next
      (if b = 0xB4 then { s with link := { s.link with receiver := .inFrame [] } } else s) := by
  rw [exec_linkByteReceived, h]
  rfl

theorem exec_byte_inFrame {bytes : List Byte} (h : s.link.receiver = .inFrame bytes) :
    exec (.linkByteReceived b) s = .next (s.frameByte bytes b) := by
  rw [exec_linkByteReceived, h]

theorem State.frameByte_badLength (h : b = 0 ∨ 250 < b.toNat) : s.frameByte [] b = s.discardFrame := by
  unfold State.frameByte
  refine if_pos ?_
  rcases h with rfl | h
  · rfl
  · simp [Config.frameLengthMax, h]

theorem State.frameByte_length (h1 : 1 ≤ b.toNat) (h2 : b.toNat ≤ 250) :
    s.frameByte [] b = { s with link := { s.link with receiver := .inFrame [b] } } := by
  unfold State.frameByte
  refine if_neg ?_
  simp only [Config.frameLengthMax, Bool.or_eq_true, decide_eq_true_eq]
  omega

theorem State.frameByte_more {l : Byte} {bs : List Byte} (h : bs.length + 2 < l.toNat + 3) :
    s.frameByte (l :: bs) b = { s with link := { s.link with receiver := .inFrame (l :: bs ++ [b]) } } := by
  unfold State.frameByte
  exact if_pos (by simpa using h)

theorem State.frameByte_last {l : Byte} {bs : List Byte} (h : l.toNat + 3 ≤ bs.length + 2) :
    s.frameByte (l :: bs) b = s.frameEnds (l :: bs ++ [b]) := by
  unfold State.frameByte
  exact if_neg (by simpa using h)

theorem State.frameEnds_bad {bytes : List Byte} (h : s.link.answerPending = true ∨ frameCheckPasses bytes = false) :
    s.frameEnds bytes = s.discardFrame := by
  unfold State.frameEnds
  refine if_pos ?_
  rcases h with h | h <;> simp [h]

end

theorem exec_responseSent {s : State} {r : List Byte} (h : s.link.response = some r) :
    exec .responseSent s = .next s.responseLeaves := by
  change execResponseSent s = _
  unfold execResponseSent
  rw [h]
  rfl

/-- Settles O27, by the state of the receiver and by whether a rate waits. -/
theorem receiverAndTransmitter : Obligations.ReceiverAndTransmitter := by
  unfold Obligations.ReceiverAndTransmitter
  constructor
  · intro s b
    refine ⟨fun h hb => (exec_byte_hunting h).trans (by rw [if_neg hb]),
      fun h hb => (exec_byte_hunting h).trans (by rw [if_pos hb]), fun h hb => ?_, fun h h1 h2 => ?_, fun l bs h hl => ?_,
      fun l bs h hl hbad => ?_⟩
    · rw [exec_byte_inFrame h, State.frameByte_badLength hb]
      rfl
    · rw [exec_byte_inFrame h, State.frameByte_length h1 h2]
    · rw [exec_byte_inFrame h, State.frameByte_more hl]
    · rw [exec_byte_inFrame h, State.frameByte_last hl, State.frameEnds_bad hbad]
      rfl
  · intro s r hr
    rw [exec_responseSent hr]
    unfold State.responseLeaves
    refine ⟨fun h => ?_, fun n h hu => ?_, fun n bs h hu => ?_⟩
    · rw [h]
      rfl
    · rw [h, hu]
      rfl
    · rw [h, hu]
      rfl

/-! ### SET, CLEAR ALERTS and LINK RATE -/

theorem exec_set (code : Byte) (v : Word16) (s : State) :
    exec (.set code v) s = .next (s.request (.set code v) (setRule code v)) := rfl

/-- A setting within its range, and one outside it. -/
theorem exec_set_inRange {code : Byte} {v : Word16} {s u : State} {lo hi : Nat}
    (hrule : setRule code v s = inRange lo hi v.toNat s u) (ht : s.Takes (.set code v)) :
    (lo ≤ v.toNat → v.toNat ≤ hi → exec (.set code v) s = .next (u.answered (.set code v) (.accepted []))) ∧
    (v.toNat < lo ∨ hi < v.toNat → exec (.set code v) s = .next (s.answered (.set code v) (.refused .badValue))) := by
  refine ⟨fun h1 h2 => exec_of_owner (exec_set code v s) ht (hrule.trans (if_pos ⟨h1, h2⟩)),
    fun h => exec_of_owner (exec_set code v s) ht (hrule.trans (if_neg fun hc => ?_))⟩
  omega

theorem setRule_badCode {code : Byte} (h : code.toNat = 0 ∨ 8 < code.toNat) (v : Word16) (s : State) :
    setRule code v s = (s, .refused .badValue) := by
  unfold setRule
  split
  all_goals first | rfl | omega

/-- Settles O47, by the code of the setting. -/
theorem setStoresSetting : Obligations.SetStoresSetting := by
  unfold Obligations.SetStoresSetting
  intro s v sets
  refine ⟨exec_set_inRange rfl, exec_set_inRange rfl, exec_set_inRange rfl, exec_set_inRange rfl, exec_set_inRange rfl,
    exec_set_inRange rfl, exec_set_inRange rfl, fun ht => ⟨fun h => ?_, fun h => ?_⟩,
    fun code h ht => exec_of_owner (exec_set code v s) ht (setRule_badCode h v s)⟩
  · refine exec_of_owner (exec_set 7 v s) ht ((show setRule 7 v s = setInterval v.toNat s from rfl).trans ?_)
    unfold setInterval
    rcases h with rfl | h
    · rfl
    · rw [if_neg (by omega)]
      exact if_pos h
  · refine exec_of_owner (exec_set 7 v s) ht ((show setRule 7 v s = setInterval v.toNat s from rfl).trans ?_)
    unfold setInterval
    rw [if_neg (by omega)]
    exact if_neg (by omega)

/-- One bit of a word, tested with its mask. -/
theorem and_twoPow_eq_zero {w : Nat} (x : BitVec w) {i : Nat} (hi : i < w) :
    decide (x &&& BitVec.twoPow w i = 0) = !x.getLsbD i := by
  rw [BitVec.and_twoPow]
  cases h : x.getLsbD i
  · simp
  · have : BitVec.twoPow w i ≠ 0 := fun hz => by
      have := congrArg (BitVec.getLsbD · i) hz
      simp [hi] at this
    rw [if_pos rfl]
    exact decide_eq_false this

theorem exec_linkRate (b : Byte) (s : State) :
    exec (.linkRate b) s = .next (s.request (.linkRate b) (linkRateRule b)) := rfl

/-- Settles O48: the three latched alerts by their bits; the rate by its code. -/
theorem clearAlertsAndLinkRate : Obligations.ClearAlertsAndLinkRate := by
  unfold Obligations.ClearAlertsAndLinkRate
  refine fun s => ⟨fun a ht => ?_, fun b ht => ⟨fun hb => ?_, fun r hb => ⟨fun hr => ?_, fun hr => ?_⟩⟩⟩
  · refine exec_of_owner (show exec (.clearAlerts a) s = .next (s.request _ (clearAlertsRule a)) from rfl) ht ?_
    have h8 := and_twoPow_eq_zero a (i := 8) (by omega)
    have h9 := and_twoPow_eq_zero a (i := 9) (by omega)
    have h10 := and_twoPow_eq_zero a (i := 10) (by omega)
    unfold clearAlertsRule State.modLink accept
    rw [← h8, ← h9, ← h10]
    rfl
  · refine exec_of_owner (exec_linkRate b s) ht ?_
    simp [linkRateRule, rateOf_eq_none hb, refuse]
  · subst hb
    refine exec_of_owner (exec_linkRate _ s) ht ?_
    unfold linkRateRule
    rw [rateOf_ofNat]
    exact if_pos hr
  · subst hb
    refine exec_of_owner (exec_linkRate _ s) ht ?_
    unfold linkRateRule
    rw [rateOf_ofNat]
    exact if_neg hr

/-! ### Alerts and ATTN -/

/-- The words of the alert set share no bit, so the set is their sum. -/
theorem alertValues_toNat (b0 b1 b2 b3 b4 b5 b8 b9 b10 : Bool) :
    (alertValue b0 0x0001 ||| alertValue b1 0x0002 ||| alertValue b2 0x0004 ||| alertValue b3 0x0008 |||
      alertValue b4 0x0010 ||| alertValue b5 0x0020 ||| alertValue b8 0x0100 ||| alertValue b9 0x0200 |||
      alertValue b10 0x0400).toNat =
    (if b0 then 1 else 0) + (if b1 then 2 else 0) + (if b2 then 4 else 0) + (if b3 then 8 else 0) +
      (if b4 then 16 else 0) + (if b5 then 32 else 0) + (if b8 then 256 else 0) + (if b9 then 512 else 0) +
      (if b10 then 1024 else 0) := by
  revert b0 b1 b2 b3 b4 b5 b8 b9 b10
  decide +kernel

theorem State.admissionHeld_eq (s : State) :
    s.admissionHeld = decide (s.queue.records.length + s.reservations = 64) := rfl

/-- The alert set (R159), as a number. -/
theorem State.alertSet_toNat (s : State) :
    s.alertSet.toNat =
      (if s.laneFaulted 0 then 1 else 0) + (if s.laneFaulted 1 then 2 else 0) + (if s.laneFaulted 2 then 4 else 0) +
      (if s.laneFaulted 3 then 8 else 0) + (if s.laneFaulted 4 then 16 else 0) + (if s.admissionHeld then 32 else 0) +
      (if s.link.tearEvicted then 256 else 0) + (if s.link.snapshotReady then 512 else 0) +
      (if s.link.linkError then 1024 else 0) := alertValues_toNat ..

theorem State.alertStands_iff (s : State) : s.alertStands = true ↔ s.alertSet ≠ 0 := by
  have h : s.alertSet ≠ 0 ↔ s.alertSet.toNat ≠ 0 := by
    rw [Ne, ← BitVec.toNat_inj]
    rfl
  have hall : allEngines.any s.laneFaulted = (s.laneFaulted 0 || s.laneFaulted 1 || s.laneFaulted 2 ||
      s.laneFaulted 3 || s.laneFaulted 4) := by
    rw [show allEngines = [0, 1, 2, 3, 4] by rfl]
    simp [Bool.or_assoc]
  have hnone : s.alertStands = false ↔ s.alertSet.toNat = 0 := by
    rw [State.alertSet_toNat, State.alertStands, hall]
    simp [Nat.add_eq_zero_iff]
  rw [h, Ne, ← hnone, Bool.not_eq_false]

/-- A bit of the ATTN mask. -/
theorem and_twoPow_ne_zero {w : Nat} (x : BitVec w) {i : Nat} (hi : i < w) :
    x.getLsbD i = true ↔ x &&& BitVec.twoPow w i ≠ 0 := by
  rw [← Bool.not_eq_false', ← and_twoPow_eq_zero x hi, Ne, decide_eq_false_iff_not]

/-- Settles O49: the set is the sum of its values, and each condition of ATTN is a bit of the mask and what it stands
for. -/
theorem alertsAndAttnFollowState : Obligations.AlertsAndAttnFollowState := by
  unfold Obligations.AlertsAndAttnFollowState
  intro s v faulted held
  refine ⟨State.alertSet_toNat s, ?_⟩
  have hchanged : (!s.changeSet.isEmpty) = true ↔ ∃ p, (s.pos p).changed = true := by
    simp [State.changeSet, allPositions, List.filter_eq_nil_iff]
  have hrecords : (!s.queue.records.isEmpty) = true ↔ s.queue.records ≠ [] := by simp
  unfold State.attn
  rw [Bool.or_eq_true, Bool.or_eq_true, Bool.and_eq_true, Bool.and_eq_true, Bool.and_eq_true, hchanged, hrecords,
    State.alertStands_iff, and_twoPow_ne_zero (w := 3) _ (by omega), and_twoPow_ne_zero (w := 3) _ (by omega),
    and_twoPow_ne_zero (w := 3) _ (by omega), or_assoc]
  rfl

end Sys2Proof.Machine
end

section
/-!
PROOFS. The reports of the station link and their layouts (R42, R43, R150, R157, R158, R164): STATUS, POSITION,
COUNTERS and CHANGES.
-/

namespace Sys2Proof.Machine

/-! ### Lengths -/

/-- Rows of one length, one after another. -/
theorem length_flatMap_const {α β : Type} {f : α → List β} {n : Nat} (h : ∀ a, (f a).length = n) (l : List α) :
    (l.flatMap f).length = l.length * n := by
  induction l with
  | nil => exact (Nat.zero_mul n).symm
  | cons a l ih => rw [List.flatMap_cons, List.length_append, h, ih, List.length_cons, Nat.succ_mul, Nat.add_comm]

theorem summaryBytes_length (p : PosId) (x : Position) : (summaryBytes p x).length = 10 := rfl

theorem recordBytes_length (r : CallRecord) : (recordBytes r).length = 54 := by
  unfold recordBytes
  simp only [List.length_append, byte1_length, byte2_length, mark1_length, bytes16_length, bytes32_length,
    segmentsBytes_length]

theorem tearEntryBytes_length (t : TearEntry) : (tearEntryBytes t).length = 17 := rfl

theorem statusFields_length (s : State) : (statusFields s).length = 82 := by
  have hengines : (allEngines.flatMap (engineBytes s)).length = 45 :=
    length_flatMap_const (n := 9) (engineBytes_length s) allEngines
  have hsettings : (settingsBytes s).length = 11 := rfl
  unfold statusFields
  simp only [List.length_append, byte1_length, bytes16_length, bytes32_length, evictionBytes_length, hengines, hsettings,
    List.length_cons, List.length_nil]

theorem positionFields_length (p : PosId) (x : Position) : (positionFields p x).length = 103 := by
  unfold positionFields
  simp only [List.length_append, byte1_length, byte2_length, mark1_length, bytes16_length, bytes32_length,
    callBytes_length, recoveryBytes_length, summaryBytes_length]

theorem snapshotBytes_length {o : Option SnapshotSet} (h : ∀ n, o = some n → n.counts.length = 40) :
    (snapshotBytes o).length = 125 := by
  cases o with
  | none => rfl
  | some n =>
    have hc : (n.counts.flatMap fun c => byte2 c.count ++ mark1 c.overflow).length = 120 := by
      rw [length_flatMap_const (n := 3) fun _ => rfl, h n rfl]
    unfold snapshotBytes
    rw [List.length_append, hc]
    rfl

/-- Settles O29. -/
theorem layoutsHaveTheirLengths : Obligations.LayoutsHaveTheirLengths := by
  unfold Obligations.LayoutsHaveTheirLengths
  refine ⟨summaryBytes_length, recordBytes_length, tearEntryBytes_length, statusFields_length, positionFields_length,
    fun a h => ?_, fun t e b => rfl⟩
  unfold countersFields
  rw [List.length_append, snapshotBytes_length h]
  rfl

/-! ### CHANGES -/

theorem changesFields_eq (left : Nat) (ps : List PosId) (f : PosId → List Byte) :
    changesFields left (ps.map f) = [BitVec.ofNat 8 left] ++ [BitVec.ofNat 8 ps.length] ++ ps.flatMap f := by
  simp [changesFields, byte1, List.flatMap_def]

theorem State.clearChanged_pos (s : State) (ps : List PosId) (p : PosId) :
    (s.clearChanged ps).pos p = { s.pos p with changed := (s.pos p).changed && decide (p ∉ ps) } := by
  unfold State.clearChanged
  rw [State.mapPos_pos]
  by_cases h : p ∈ ps <;> simp [h]

theorem State.clearChanged_answered (s : State) (ps : List PosId) (c : Instr) (r : Reply) :
    (s.clearChanged ps).answered c r =
      { s.answered c r with positions := ((s.clearChanged ps).answered c r).positions } := rfl

theorem changesRule_eq (s : State) :
    changesRule s = (s.clearChanged s.changesTaken, .accepted
      ([BitVec.ofNat 8 (s.changeSet.length - s.changesTaken.length)] ++ [BitVec.ofNat 8 s.changesTaken.length] ++
        s.changesTaken.flatMap fun p => summaryBytes p (s.pos p))) := by
  unfold changesRule
  dsimp only
  rw [changesFields_eq]

theorem exec_changes {s : State} (ht : s.Takes .changes) :
    exec .changes s = .next ((changesRule s).1.answered .changes (changesRule s).2) :=
  exec_of_owner (show exec .changes s = .next (s.request .changes changesRule) from rfl) ht rfl

/-- Settles O32: the members taken lose their mark, and nothing else changes. -/
theorem changesReturnsLowestMembers : Obligations.ChangesReturnsLowestMembers := by
  unfold Obligations.ChangesReturnsLowestMembers
  intro s ht members taken
  have hx := exec_changes ht
  rw [changesRule_eq, show s.changesTaken = taken from rfl, show s.changeSet = members from rfl] at hx
  clear_value taken members
  generalize Reply.accepted _ = r at hx ⊢
  refine ⟨_, hx, fun p => ?_, ?_⟩
  · rw [State.answered_pos]
    exact s.clearChanged_pos taken p
  · exact s.clearChanged_answered taken .changes r

/-! ### COUNTERS -/

theorem snapshotBytes_eq (o : Option SnapshotSet) :
    (match o with
      | none => List.replicate 125 0
      | some n => [1] ++ bytes32 n.stamp ++ n.counts.flatMap fun c =>
          bytes16 (BitVec.ofNat 16 c.count) ++ [if c.overflow then (1 : Byte) else 0]) = snapshotBytes o := by
  cases o <;> rfl

/-! ### Codes as places in a row -/

theorem LaneState.code_eq (l : LaneState) : [LaneState.testing, .inService, .suspect, .faulted, .disabled].idxOf l = l.code := by
  cases l <;> rfl

theorem OrderMode.code_eq (m : OrderMode) : (if m = .rotating then 1 else 0) = m.code := by
  cases m <;> rfl

theorem PosState.code_eq (st : PosState) :
    [PosState.vacant, .reading, .refused, .recovering, .ready, .routed, .metering, .lastUnit, .freeCall, .clearing,
      .blocked].idxOf st = st.code := by
  cases st <;> rfl

theorem Profile.code_eq (v : Profile) : [Profile.card, .free, .unused].idxOf v = v.code := by
  cases v <;> rfl

theorem OneShotKind.code_eq (k : OneShotKind) :
    [OneShotKind.stopped, .answerWait, .tone, .clearWait].idxOf k = k.code := by
  cases k <;> rfl

theorem Resolution.code_eq (r : Resolution) : [Resolution.noDoubt, .taken, .notTaken, .anomaly].idxOf r = r.code := by
  cases r <;> rfl

theorem CallKind.code_eq (k : CallKind) : (if k = .call then 0 else 1) = k.code := by
  cases k <;> rfl

theorem opCode_eq (o : Option CardOp) : [none, some CardOp.identify, some .verify, some .burn].idxOf o = opCode o := by
  rcases o with _ | o
  · rfl
  · cases o <;> rfl

theorem pendingAllocCode_eq (o : Option Allocation) :
    [none, some Allocation.home, some .relief].idxOf o = pendingAllocCode o := by
  rcases o with _ | a
  · rfl
  · cases a <;> rfl

theorem hookCode_eq (o : Option HookLevel) : [none, some HookLevel.on, some .off].idxOf o = hookCode o := by
  rcases o with _ | v
  · rfl
  · cases v <;> rfl

theorem cardCode_eq (o : Option CardLevel) : [none, some CardLevel.absent, some .present].idxOf o = cardCode o := by
  rcases o with _ | v
  · rfl
  · cases v <;> rfl

theorem lineCode_eq (o : Option LineCode) :
    [none, some LineCode.idle, some .proceed, some .answer, some .clearback].idxOf o = lineCode o := by
  rcases o with _ | v
  · rfl
  · cases v <;> rfl

theorem engineOf_val (p : PosId) (a : Allocation) : (if a = .home then p.val / 12 else 4) = (engineOf p a).val := by
  cases a <;> rfl

/-- The cause of a summary (R42). -/
theorem Position.causeCode_eq (x : Position) :
    (if x.state = .refused then
        [none, some RefusalCause.unreadable, some .foreign, some .empty, some .invalid, some .faulty].idxOf x.refusal
      else if x.state = .clearing then
        match x.call.bind (·.endCause) with
        | none => 0
        | some w =>
          16 + [EndCause.hungUp, .farEnd, .noAnswer, .exhausted, .debtLimit, .cardWithdrawn, .cardFault, .host,
            .blocked, .restart, .tariffUndefined, .complete, .empty].idxOf w
      else 0) = x.causeCode := by
  unfold Position.causeCode
  cases hs : x.state
  case refused =>
    rcases x.refusal with _ | w
    · rfl
    · cases w <;> rfl
  case clearing =>
    rcases x.call.bind (·.endCause) with _ | w
    · rfl
    · cases w <;> rfl
  all_goals rfl

/-! ### STATUS -/

theorem evictionBytes_eq (o : Option Eviction) :
    (match o with
      | none => List.replicate 13 0
      | some v =>
        [1] ++ bytes16 v.key.series ++ bytes32 v.key.serial ++ [BitVec.ofNat 8 v.owed] ++ [BitVec.ofNat 8 v.inDoubt] ++
          bytes32 v.stamp) = evictionBytes o := by
  cases o <;> rfl

theorem engineBytes_eq (s : State) (e : EngineId) :
    [BitVec.ofNat 8 ([LaneState.testing, .inService, .suspect, .faulted, .disabled].idxOf (s.eng e).lane)] ++
      [if (s.eng e).disablePending then (1 : Byte) else 0] ++
      [BitVec.ofNat 8 (if (s.eng e).lane = .testing then (s.eng e).testTimeLeft else 0)] ++
      [if decide ((s.eng e).mode = .rotating) then (1 : Byte) else 0] ++ [BitVec.ofNat 8 (s.eng e).grantLength] ++
      [if ((s.eng e).autoRelief && e ≠ 4) then (1 : Byte) else 0] ++ [BitVec.ofNat 8 (s.eng e).pointer] ++
      [BitVec.ofNat 8 (s.eng e).burst] ++
      [BitVec.ofNat 8 (allPositions.filter fun p =>
        (s.pos p).pendingOp.isSome && engineOf p (s.pos p).allocation = e).length] = engineBytes s e := by
  have hmode : (if decide ((s.eng e).mode = .rotating) then (1 : Byte) else 0) = BitVec.ofNat 8 (s.eng e).mode.code := by
    cases (s.eng e).mode <;> rfl
  have hauto : ((s.eng e).autoRelief && decide (e ≠ 4)) = (e != reliefEngine && (s.eng e).autoRelief) := by
    rw [Bool.and_comm, Bool.eq_iff_iff]
    simp only [reliefEngine, Bool.and_eq_true, bne_iff_ne, decide_eq_true_eq]
  rw [LaneState.code_eq, hmode, hauto]
  rfl

theorem statusFields_eq (s : State) :
    statusFields s = 
      bytes16 s.alertSet ++ ([0, 1, 2, 3, 4] : List EngineId).flatMap (engineBytes s) ++
      [BitVec.ofNat 8 s.queue.records.length] ++
      [BitVec.ofNat 8 (allPositions.filter fun p => (s.pos p).reservation).length] ++
      [BitVec.ofNat 8 (allPositions.filter fun p => (s.pos p).state = .recovering && !(s.pos p).reservation).length] ++
      [BitVec.ofNat 8 s.tear.entries.length] ++ evictionBytes s.tear.lastEviction ++
      [s.tariff.edition] ++ [BitVec.ofNat 8 s.tariff.band.val] ++ bytes32 s.link.stamp ++
      [BitVec.ofNat 8 (allPositions.filter fun p => (s.pos p).changed).length] ++ settingsBytes s := by
  rfl

/-! ### POSITION -/

theorem callBytes_eq (o : Option Call) :
    (match o with
      | none => List.replicate 44 0
      | some c =>
        [1] ++ [BitVec.ofNat 8 (if c.kind = .call then 0 else 1)] ++ [BitVec.ofNat 8 c.cls.val] ++ bytes32 c.setup ++
        [if c.answer.isSome then (1 : Byte) else 0] ++ bytes32 (c.answer.getD 0) ++
        (match c.tariff with
          | none => [0, 0, 0, 0]
          | some k => bytes16 (BitVec.ofNat 16 k.period) ++ [BitVec.ofNat 8 k.step] ++ [if k.follow then (1 : Byte) else 0]) ++
        [if c.bandPending then (1 : Byte) else 0] ++ [BitVec.ofNat 8 c.segments.length] ++
        [if c.merged then (1 : Byte) else 0] ++
        ((c.segments.flatMap fun g : Segment =>
          [BitVec.ofNat 8 g.band.val] ++ [g.edition] ++ bytes16 (BitVec.ofNat 16 g.units)) ++ List.replicate 16 0).take 16 ++
        bytes16 (BitVec.ofNat 16 c.charged) ++
        (bytes16 (BitVec.ofNat 16 c.units.burned) ++ bytes16 (BitVec.ofNat 16 c.units.writtenOff) ++
          [BitVec.ofNat 8 c.units.owedOut] ++ [BitVec.ofNat 8 c.units.doubtOut] ++
          [if c.units.anomaly then (1 : Byte) else 0])) = callBytes o := by
  rcases o with _ | c
  · rfl
  · have htariff : (match c.tariff with
        | none => [0, 0, 0, 0]
        | some k => bytes16 (BitVec.ofNat 16 k.period) ++ [BitVec.ofNat 8 k.step] ++ [if k.follow then (1 : Byte) else 0]) =
        byte2 ((c.tariff.map (·.period)).getD 0) ++ byte1 ((c.tariff.map (·.step)).getD 0) ++
          mark1 ((c.tariff.map (·.follow)).getD false) := by
      cases c.tariff <;> rfl
    dsimp only
    rw [htariff, CallKind.code_eq]
    unfold callBytes
    simp only [List.append_assoc]
    rfl

theorem recoveryBytes_eq (o : Option Recovery) :
    (match o with
      | none => List.replicate 14 0
      | some r =>
        [1] ++ [BitVec.ofNat 8 r.owedIn] ++
        [BitVec.ofNat 8 ([Resolution.noDoubt, .taken, .notTaken, .anomaly].idxOf r.resolution)] ++ bytes32 r.start ++
        (bytes16 (BitVec.ofNat 16 r.units.burned) ++ bytes16 (BitVec.ofNat 16 r.units.writtenOff) ++
          [BitVec.ofNat 8 r.units.owedOut] ++ [BitVec.ofNat 8 r.units.doubtOut] ++
          [if r.units.anomaly then (1 : Byte) else 0])) = recoveryBytes o := by
  rcases o with _ | r
  · rfl
  · dsimp only
    rw [Resolution.code_eq]
    unfold recoveryBytes
    simp only [List.append_assoc]
    rfl

/-- The card of a position, absent or present, after the bytes before it. -/
theorem identityBytes_eq (before : List Byte) (x : Position) :
    before ++ mark1 x.identity.isSome ++ bytes16 ((x.key.map (·.series)).getD 0) ++
      bytes32 ((x.key.map (·.serial)).getD 0) ++ byte2 ((x.identity.map (·.face)).getD 0) =
    before ++ (match x.identity with
      | none => List.replicate 9 0
      | some id => [1] ++ bytes16 id.key.series ++ bytes32 id.key.serial ++ bytes16 (BitVec.ofNat 16 id.face)) := by
  unfold Position.key
  simp only [List.append_assoc]
  cases x.identity <;> rfl

/-- The operation in flight of a position, absent or present, after the bytes before it. -/
theorem inFlightBytes_eq (before : List Byte) (o : Option InFlight) :
    before ++ byte1 (opCode (o.map (·.op))) ++ byte1 ((o.map fun f => f.engine.val).getD 0) ++
      mark1 ((o.map (·.discard)).getD false) =
    before ++ (match o with
      | none => [0, 0, 0]
      | some f => [BitVec.ofNat 8 ([none, some CardOp.identify, some .verify, some .burn].idxOf (some f.op))] ++
          [BitVec.ofNat 8 f.engine.val] ++ [if f.discard then (1 : Byte) else 0]) := by
  simp only [List.append_assoc]
  rcases o with _ | f
  · rfl
  · dsimp only
    rw [opCode_eq]
    rfl

/-- Settles O28: each report is its layout, field by field. -/
theorem reportsChangeNothing : Obligations.ReportsChangeNothing := by
  unfold Obligations.ReportsChangeNothing
  intro s b1 b2 mark number summary segments counted call recovery
  refine ⟨fun ht => ?_, fun ht => ?_, fun p ht => ?_, fun b hb ht => exec_badPosition (exec_position b s) hb ht⟩
  · refine exec_of_owner (show exec .status s = .next (s.request .status statusRule) from rfl) ht ?_
    refine congrArg (fun l => (s, Reply.accepted l)) ?_
    rw [statusFields_eq, ← evictionBytes_eq, show engineBytes s = _ from funext fun e => (engineBytes_eq s e).symm]
    unfold settingsBytes
    simp only [List.append_assoc]
    rfl
  · refine exec_of_owner (show exec .counters s = .next (s.request .counters countersRule) from rfl) ht ?_
    refine congrArg (fun l => (s, Reply.accepted l)) ?_
    unfold countersFields
    rw [← snapshotBytes_eq]
    rfl
  · refine exec_of_rule (exec_position _ s) ht ?_
    refine congrArg (fun l => (s, Reply.accepted l)) ?_
    have hsummary : summary p (s.pos p) = summaryBytes p (s.pos p) := by
      unfold summaryBytes
      rw [← PosState.code_eq, ← Position.causeCode_eq, ← hookCode_eq, ← cardCode_eq, ← lineCode_eq, ← engineOf_val]
      rfl
    have hcall : call (s.pos p).call = callBytes (s.pos p).call := callBytes_eq _
    have hrecovery : recovery (s.pos p).recovery = recoveryBytes (s.pos p).recovery := recoveryBytes_eq _
    unfold positionFields
    rw [identityBytes_eq, inFlightBytes_eq, ← hsummary, ← hcall, ← hrecovery, ← Profile.code_eq, ← opCode_eq,
      ← pendingAllocCode_eq, ← OneShotKind.code_eq]
    rfl

end Sys2Proof.Machine
end

section
/-!
PROOFS. Requests on the link from frame to reply: a request read back from its frame, a frame byte by byte, and a refused
request that changes nothing (R153 to R155, R165).
-/

namespace Sys2Proof.Machine

/-! ### A request read back -/

/-- Settles O52, by the request: each field is read back from the bytes that carry it. -/
theorem decodeReadsEncodedRequest : Obligations.DecodeReadsEncodedRequest := by
  unfold Obligations.DecodeReadsEncodedRequest
  intro c h hw
  cases c
  case unknownRequest type body => exact decodeRequest_of_refused ((Bool.and_eq_true _ _).mp hw).2
  case status | changes | position | route | release | block | unblock | profile | freeze | allocate | laneMode
      | laneDisable | laneEnable | laneTest | tariffCopy | tariffCommit | tariffRead | band | recordPeek
      | tearRead | counters | snapshot | linkRate | restart => rfl
  case tariffStage cls band defined period step initial follow =>
    exact congrArg (Instr.tariffStage cls band defined · step initial follow) (word16_of_bytes period)
  case recordRelease seq => exact congrArg Instr.recordRelease (word16_of_bytes seq)
  case tearDelete series serial => exact congr (congrArg Instr.tearDelete (word16_of_bytes series)) (word32_of_bytes serial)
  case set code v => exact congrArg (Instr.set code) (word16_of_bytes v)
  case clock stamp => exact congrArg Instr.clock (word32_of_bytes stamp)
  case clearAlerts alerts => exact congrArg Instr.clearAlerts (word16_of_bytes alerts)
  all_goals cases h

/-! ### A frame, byte by byte -/

/-- The bytes of a run of characters, received one after the other. -/
def receive (o : Result) (bytes : List Byte) : Result :=
  bytes.foldl
    (fun o b => match o with
      | Host.Outcome.next t => exec (.linkByteReceived b) t
      | other => other) o

theorem receive_cons {s t : State} {b : Byte} {bytes : List Byte} (h : exec (.linkByteReceived b) s = .next t) :
    receive (.next s) (b :: bytes) = receive (.next t) bytes := by
  change receive (exec (.linkByteReceived b) s) bytes = _
  rw [h]

/-- A receiver inside a frame. -/
def State.inFrame (s : State) (bytes : List Byte) : State :=
  { s with link := { s.link with receiver := .inFrame bytes } }

/-- The bytes of a frame before its last one are collected. -/
theorem receive_collects (s : State) (l : Byte) (got more : List Byte) (rest : List Byte)
    (h : got.length + 1 + more.length < l.toNat + 3) :
    receive (.next (s.inFrame (l :: got))) (more ++ rest) = receive (.next (s.inFrame (l :: (got ++ more)))) rest := by
  induction more generalizing got with
  | nil => simp
  | cons b more ih =>
    have hb : exec (.linkByteReceived b) (s.inFrame (l :: got)) = .next (s.inFrame (l :: (got ++ [b]))) := by
      rw [exec_byte_inFrame rfl, State.frameByte_more (by simp at h; omega)]
      rfl
    rw [List.cons_append, receive_cons hb, ih _ (by simp at h ⊢; omega), List.append_assoc]
    rfl

/-- The check of a frame passes where its last two bytes are the check of the others. -/
theorem frameCheckPasses_frame (core : List Byte) : frameCheckPasses (core ++ bytes16 (crc16 core)) = true := by
  have hl : (core ++ bytes16 (crc16 core)).length - 2 = core.length := by simp
  unfold frameCheckPasses
  rw [hl]
  simp

/-- A good frame hands its request on (R155). -/
theorem State.frameEnds_good {s : State} {l type : Byte} {body : List Byte} (hp : s.link.answerPending = false) :
    s.frameEnds (l :: type :: body ++ bytes16 (crc16 (l :: type :: body))) =
      { s with link :=
        { s.link with receiver := .hunting, answerPending := true, handed := some (decodeRequest type body) } } := by
  have hl : (l :: type :: body ++ bytes16 (crc16 (l :: type :: body))).length - 2 = (l :: type :: body).length := by simp
  unfold State.frameEnds
  rw [if_neg (by rw [hp, frameCheckPasses_frame]; exact Bool.false_ne_true), hl, List.take_left]
  rfl

theorem requestBody_fits {c : Instr} (hw : c.WellFormed = true) : (requestBody c).length ≤ 249 := by
  cases c
  case unknownRequest type body => 
    have := of_decide_eq_true ((Bool.and_eq_true _ _).mp hw).1
    simpa [Config.frameLengthMax, requestBody] using Nat.le_of_succ_le_succ this
  all_goals simp [requestBody]

/-- A frame received by a HUNTING receiver hands its request on (R154, R155). -/
theorem receive_frame {s : State} {type : Byte} {body : List Byte} (hu : s.link.receiver = .hunting)
    (hp : s.link.answerPending = false) (hfit : body.length ≤ 249) :
    receive (.next s) (frame type body) =
      .next { s with link := { s.link with answerPending := true, handed := some (decodeRequest type body) } } := by
  obtain ⟨l, hl⟩ : ∃ l : Byte, l = BitVec.ofNat 8 (body.length + 1) := ⟨_, rfl⟩
  have hlen : l.toNat = body.length + 1 := by
    rw [hl, BitVec.toNat_ofNat]
    omega
  obtain ⟨hi, lo, hcrc⟩ : ∃ hi lo, bytes16 (crc16 (l :: type :: body)) = [hi, lo] := ⟨_, _, rfl⟩
  have hframe : frame type body = 0xB4 :: l :: ((type :: body ++ [hi]) ++ [lo]) := by
    unfold frame byte1
    rw [← hl]
    change 0xB4 :: l :: type :: body ++ bytes16 (crc16 (l :: type :: body)) = _
    rw [hcrc]
    simp
  have hsync : exec (.linkByteReceived 0xB4) s = .next (s.inFrame []) := (exec_byte_hunting hu).trans (by rw [if_pos rfl]; rfl)
  have hlength : exec (.linkByteReceived l) (s.inFrame []) = .next (s.inFrame [l]) := by
    rw [exec_byte_inFrame rfl, State.frameByte_length (by omega) (by omega)]
    rfl
  have hlast : exec (.linkByteReceived lo) (s.inFrame (l :: (type :: body ++ [hi]))) =
      .next { s with link := { s.link with answerPending := true, handed := some (decodeRequest type body) } } := by
    rw [exec_byte_inFrame rfl, State.frameByte_last (by simp; omega)]
    have hbytes : l :: (type :: body ++ [hi]) ++ [lo] = l :: type :: body ++ bytes16 (crc16 (l :: type :: body)) := by
      rw [hcrc]
      simp
    rw [hbytes, State.frameEnds_good (s := s.inFrame _) hp]
    unfold State.inFrame
    dsimp only
    rw [← hu]
  rw [hframe, receive_cons hsync, receive_cons hlength, receive_collects s l [] _ _ (by simp; omega), List.nil_append,
    receive_cons hlast]
  rfl

/-- Settles O53: the frame is collected up to its last check byte, which hands the request on. -/
theorem frameHandsItsRequestOn : Obligations.FrameHandsItsRequestOn := by
  unfold Obligations.FrameHandsItsRequestOn
  intro c s h hw hu hp
  have hreceive := receive_frame (type := requestType c) hu hp (requestBody_fits hw)
  rw [decodeReadsEncodedRequest c h hw] at hreceive
  exact hreceive

/-! ### A refused request -/

/-- A frame is read back from its bytes. -/
theorem frame_injective {type : Byte} {a b : List Byte} (h : frame type a = frame type b) : a = b := by
  unfold frame byte1 at h
  have hlen := congrArg List.length h
  simp at hlen
  simp at h
  exact (List.append_inj h.2 hlen).1

theorem RefusalCode.code_pos (c : RefusalCode) : 0 < c.code ∧ c.code < 15 := by
  cases c <;> decide

theorem RefusalCode.code_injective {c d : RefusalCode} (h : c.code = d.code) : c = d := by
  cases c <;> cases d <;> first | rfl | cases h

/-- The response tells the refusal and its code. -/
theorem Reply.of_body {r : Reply} {code : RefusalCode} (h : r.body = (Reply.refused code).body) : r = .refused code := by
  have hc := code.code_pos
  cases r with
  | accepted fields =>
    have h0 : (0 : Byte) = BitVec.ofNat 8 code.code := (List.cons.inj h).1
    have := congrArg BitVec.toNat h0
    simp at this
    omega
  | refused d =>
    have hd := d.code_pos
    have h0 : BitVec.ofNat 8 d.code = BitVec.ofNat 8 code.code := (List.cons.inj h).1
    have := congrArg BitVec.toNat h0
    simp at this
    rw [RefusalCode.code_injective (c := d) (d := code) (by omega)]

/-- A rule that refuses leaves the state as it is. -/
structure RefusesUnchanged (s : State) (r : State × Reply) : Prop where
  unchanged : ∀ code, r.2 = .refused code → r.1 = s

theorem RefusesUnchanged.refuse (s : State) (code : RefusalCode) : RefusesUnchanged s (refuse s code) := ⟨fun _ _ => rfl⟩

theorem RefusesUnchanged.same (s : State) (r : Reply) : RefusesUnchanged s (s, r) := ⟨fun _ _ => rfl⟩

theorem RefusesUnchanged.accepted (s t : State) (fields : List Byte) : RefusesUnchanged s (t, .accepted fields) := ⟨nofun⟩

theorem RefusesUnchanged.accept (s t : State) : RefusesUnchanged s (accept t) := ⟨nofun⟩

theorem RefusesUnchanged.onPosition {s : State} {rule : PosId → State → State × Reply}
    (h : ∀ p, RefusesUnchanged s (rule p s)) (b : Byte) : RefusesUnchanged s (onPosition b rule s) := by
  unfold Machine.onPosition
  split
  · exact .same ..
  · exact h _

theorem RefusesUnchanged.onEngine {s : State} {rule : EngineId → State → State × Reply}
    (h : ∀ e, RefusesUnchanged s (rule e s)) (b : Byte) : RefusesUnchanged s (onEngine b rule s) := by
  unfold Machine.onEngine
  split
  · exact .same ..
  · exact h _

theorem RefusesUnchanged.ite {s : State} {c : Prop} [Decidable c] {a b : State × Reply} (ha : RefusesUnchanged s a)
    (hb : RefusesUnchanged s b) : RefusesUnchanged s (if c then a else b) := by
  split
  · exact ha
  · exact hb

theorem inRange_refuses (lo hi v : Nat) (s t : State) : RefusesUnchanged s (inRange lo hi v s t) :=
  .ite (.accept ..) (.refuse ..)

theorem setRule_refuses (code : Byte) (v : Word16) (s : State) : RefusesUnchanged s (setRule code v s) := by
  unfold setRule
  split
  case h_7 => exact .ite (.accept ..) (inRange_refuses ..)
  case h_9 => exact .refuse ..
  all_goals exact inRange_refuses ..

theorem routeRule_refuses (cls : Byte) (p : PosId) (s : State) : RefusesUnchanged s (routeRule cls p s) := by
  unfold routeRule
  split
  · exact .refuse ..
  · split
    · exact .refuse ..
    · exact .accept ..

theorem requestOwner_refuses (c : Instr) (s : State) : RefusesUnchanged s (requestOwner c s) := by
  cases c
  case unknownRequest type body =>
    change RefusesUnchanged s (unknownRequestRule type s)
    unfold unknownRequestRule
    split <;> exact .refuse ..
  case route p cls => exact .onPosition (fun q => routeRule_refuses cls q s) p
  case set code v => exact setRule_refuses code v s
  case position p => exact .onPosition (fun q => .same ..) p
  case release p => exact .onPosition (fun q => .ite (.accept ..) (.ite (.accept ..) (.refuse ..))) p
  case block p => exact .onPosition (rule := blockRule) (fun q => .accept ..) p
  case unblock p => exact .onPosition (fun q => .ite (.accept ..) (.refuse ..)) p
  case profile p v =>
    refine .onPosition (fun q => ?_) p
    unfold profileRule
    split
    · exact .refuse ..
    · exact .ite (.accept ..) (.refuse ..)
  case freeze p m =>
    refine .onPosition (fun q => ?_) p
    unfold freezeRule
    split
    · exact .refuse ..
    · exact .accept ..
  case allocate p a =>
    refine .onPosition (fun q => ?_) p
    unfold allocateRule
    split
    · exact .refuse ..
    · exact .accept ..
  case laneMode e m len a =>
    change RefusesUnchanged s (laneModeRule e m len a s)
    unfold laneModeRule
    split
    · exact .ite (.accept ..) (.refuse ..)
    · exact .refuse ..
  case laneDisable e => exact .onEngine (rule := laneDisableRule) (fun k => .accept ..) e
  case laneEnable e => exact .onEngine (fun k => .ite (.accept ..) (.refuse ..)) e
  case laneTest e => exact .onEngine (fun k => .ite (.accept ..) (.refuse ..)) e
  case tariffStage cls band defined period step initial follow =>
    change RefusesUnchanged s (tariffStageRule cls band defined period step initial follow s)
    unfold tariffStageRule
    split
    · exact .accept ..
    · exact .refuse ..
  case tariffCommit n => exact .ite (.same ..) (.accept ..)
  case tariffRead sel cls band =>
    change RefusesUnchanged s (tariffReadRule sel cls band s)
    unfold tariffReadRule
    split <;> exact .same ..
  case band b =>
    change RefusesUnchanged s (bandRule b s)
    unfold bandRule
    split
    · exact .refuse ..
    · exact .ite (.accept ..) (.accept ..)
  case recordPeek =>
    change RefusesUnchanged s (recordPeekRule s)
    unfold recordPeekRule
    split <;> exact .same ..
  case recordRelease q =>
    change RefusesUnchanged s (recordReleaseRule q s)
    unfold recordReleaseRule
    split
    · exact .refuse ..
    · exact .ite (.accept ..) (.refuse ..)
  case tearRead i =>
    refine .ite (.refuse ..) ?_
    split <;> exact .same ..
  case tearDelete series serial =>
    change RefusesUnchanged s (tearDeleteRule series serial s)
    unfold tearDeleteRule
    dsimp only
    split
    · exact .refuse ..
    · exact .accept ..
  case linkRate code =>
    change RefusesUnchanged s (linkRateRule code s)
    unfold linkRateRule
    split
    · exact .refuse ..
    · exact .ite (.accept ..) (.accept ..)
  case status | counters => exact .same ..
  case changes | snapshot => exact .accepted ..
  all_goals exact .accept ..

/-- Settles O54: the reply tells that the rule refused, and a rule that refuses leaves the state as it is. -/
theorem refusedRequestChangesNothing : Obligations.RefusedRequestChangesNothing := by
  unfold Obligations.RefusedRequestChangesNothing
  intro c s t code h ht hw hx hresponse
  have howner := exec_of_owner (exec_request h hw s) ht
    (rfl : requestOwner c s = ((requestOwner c s).1, (requestOwner c s).2))
  obtain rfl : (requestOwner c s).1.answered c (requestOwner c s).2 = t := Host.Outcome.next.inj (howner.symm.trans hx)
  have hreply : (requestOwner c s).2 = .refused code := Reply.of_body (frame_injective (Option.some.inj hresponse))
  rw [hreply, (requestOwner_refuses c s).unchanged code hreply]

end Sys2Proof.Machine
end

section
/-!
PROOFS. The arbiter's order (R102 to R104) and a lane after a completion (R91, R92).
-/

namespace Sys2Proof.Machine

/-! ### The order of the candidates -/

theorem engineOf_eq_iff (p : PosId) (a : Allocation) (e : EngineId) :
    engineOf p a = e ↔ (if a = .home then p.val / 12 else 4) = e.val := by
  rw [engineOf_val, Fin.ext_iff]

theorem State.candidates_sorted (s : State) (e : EngineId) : (s.candidates e).Pairwise (· < ·) :=
  (List.pairwise_lt_finRange 48).filter _

theorem State.members_sorted (s : State) (e : EngineId) (u : Urgency) : (s.members e u).Pairwise (· < ·) :=
  (s.candidates_sorted e).filter _

/-- A candidate of an engine has a reader on its bus. -/
theorem State.candidate_reader {s : State} {e : EngineId} {p : PosId} (h : p ∈ s.candidates e) :
    readerIndex e p < busSize e ∧ (e = reliefEngine → readerIndex e p = p.val) ∧
      (e ≠ reliefEngine → readerIndex e p + 12 * e.val = p.val) := by
  have he := (engineOf_eq_iff _ _ _).mp (State.mem_candidates.mp h).2
  unfold readerIndex busSize
  by_cases hr : e = reliefEngine
  · simp [hr]
  · have hne : e.val ≠ 4 := fun hv => hr (Fin.ext hv)
    rw [if_neg hr, if_neg hr]
    split at he
    · refine ⟨by omega, fun h => absurd h hr, fun _ => by omega⟩
    · exact absurd he.symm hne

theorem State.candidate_reader_le {s : State} {e : EngineId} {p q : PosId} (hp : p ∈ s.candidates e)
    (hq : q ∈ s.candidates e) (hpq : p ≤ q) : readerIndex e p ≤ readerIndex e q := by
  obtain ⟨-, hp4, hp⟩ := s.candidate_reader hp
  obtain ⟨-, hq4, hq⟩ := s.candidate_reader hq
  have hv : p.val ≤ q.val := hpq
  by_cases hr : e = reliefEngine
  · rw [hp4 hr, hq4 hr]
    exact hv
  · have := hp hr
    have := hq hr
    omega

/-- The first of an ascending row is its least. -/
theorem le_of_head? {ps : List PosId} (h : ps.Pairwise (· < ·)) {p : PosId} (hp : ps.head? = some p) {q : PosId}
    (hq : q ∈ ps) : p ≤ q := by
  cases ps with
  | nil => cases hq
  | cons a l =>
    cases hp
    rcases List.mem_cons.mp hq with rfl | hq
    · exact Fin.le_refl _
    · exact Fin.le_of_lt (List.rel_of_pairwise_cons h hq)

/-- The place of a reader in the round that starts at the rotation pointer. -/
theorem rotation_of_le {r n ptr : Nat} (hr : r < n) (h : ptr ≤ r) : (r + n - ptr) % n = r - ptr := by
  rw [show r + n - ptr = r - ptr + n by omega, Nat.add_mod_right, Nat.mod_eq_of_lt (by omega)]

theorem rotation_of_lt {r n ptr : Nat} (hptr : ptr < n) (h : r < ptr) : (r + n - ptr) % n = r + n - ptr :=
  Nat.mod_eq_of_lt (by omega)

/-- What an order mode takes from an ascending class: the least, or the first of the round. -/
theorem pick_first {mode : OrderMode} {e : EngineId} {ptr : Nat} {ps : List PosId} {p : PosId}
    (hs : ps.Pairwise (· < ·)) (hlt : ∀ q ∈ ps, readerIndex e q < busSize e)
    (hle : ∀ q ∈ ps, ∀ r ∈ ps, q ≤ r → readerIndex e q ≤ readerIndex e r) (h : pick mode e ptr ps = some p)
    {q : PosId} (hq : q ∈ ps) :
    (mode = .fixed → p ≤ q) ∧
      (mode = .rotating → ptr < busSize e →
        (readerIndex e p + busSize e - ptr) % busSize e ≤ (readerIndex e q + busSize e - ptr) % busSize e) := by
  have hp := pick_mem h
  cases mode with
  | fixed => exact ⟨fun _ => le_of_head? hs h hq, nofun⟩
  | rotating =>
    refine ⟨nofun, fun _ hptr => ?_⟩
    have hpn := hlt p hp
    have hqn := hlt q hq
    unfold pick at h
    dsimp only at h
    split at h
    · next r hf =>
      cases h
      obtain ⟨hpp, as, bs, hps, has⟩ := List.find?_eq_some_iff_append.mp hf
      rw [rotation_of_le hpn (of_decide_eq_true hpp)]
      by_cases hqp : ptr ≤ readerIndex e q
      · rw [rotation_of_le hqn hqp]
        have : p ≤ q := by
          rw [hps] at hq hs
          rcases List.mem_append.mp hq with hq | hq
          · have := has q hq
            simp [hqp] at this
          · exact le_of_head? (List.pairwise_append.mp hs).2.1 rfl hq
        have := hle p hp q hq this
        omega
      · rw [rotation_of_lt hptr (by omega)]
        have := of_decide_eq_true hpp
        omega
    · next hf =>
      have hbelow (r : PosId) (hr : r ∈ ps) : readerIndex e r < ptr := by
        have := List.find?_eq_none.mp hf r hr
        simpa using this
      rw [rotation_of_lt hptr (hbelow p hp), rotation_of_lt hptr (hbelow q hq)]
      have := hle p hp q hq (le_of_head? hs h hq)
      omega

/-! ### The urgency classes -/

/-- The place of an urgency class. -/
def Urgency.rank : Urgency → Nat
  | .a => 0
  | .b => 1
  | .c => 2

theorem Urgency.rank_injective {u v : Urgency} (h : u.rank = v.rank) : u = v := by
  cases u <;> cases v <;> first | rfl | cases h

/-- The class of a candidate (R102). -/
theorem Position.urgency_rank {x : Position} (h : x.pendingOp.isSome = true) (threshold : Nat) :
    (x.urgency threshold).rank =
      if x.state = .clearing ∨ (x.pendingOp ∈ [some .burn, some .verify] ∧ threshold ≤ x.debt) then 0
      else if x.pendingOp = some .identify then 1
      else 2 := by
  obtain ⟨op, hop⟩ := Option.isSome_iff_exists.mp h
  unfold Position.urgency
  rw [hop]
  by_cases hs : x.state = .clearing
  · simp [hs, Urgency.rank]
  · by_cases ht : threshold ≤ x.debt <;> cases op <;> simp [hs, ht, Urgency.rank]

/-- The class taken is the first that has a member. -/
theorem State.choose_class {s : State} {e : EngineId} {p : PosId} (h : s.choose e = some p) :
    ∃ u, (s.pos p).urgency s.settings.urgency = u ∧
      pick (s.eng e).mode e (s.eng e).pointer (s.members e u) = some p ∧
      ∀ q ∈ s.candidates e, u.rank ≤ ((s.pos q).urgency s.settings.urgency).rank := by
  rcases s.choose_cases e with ⟨hn, -⟩ | ⟨u, p', hp, hpick, hempty⟩
  · rw [hn] at h
    cases h
  · obtain rfl : p' = p := Option.some.inj (hp.symm.trans h)
    refine ⟨u, (State.mem_members.mp (pick_mem hpick)).2, hpick, fun q hq => ?_⟩
    have hmem := State.mem_members.mpr ⟨hq, rfl⟩
    refine Classical.byContradiction fun hlt => ?_
    generalize (s.pos q).urgency s.settings.urgency = v at hmem hlt
    have hv : v = .a ∨ (v = .b ∧ u = .c) := by cases u <;> cases v <;> simp [Urgency.rank] at hlt ⊢
    rw [hempty v hv fun he => hlt (Nat.le_of_eq (congrArg Urgency.rank he.symm))] at hmem
    cases hmem

/-! ### Arbitration -/

theorem State.arbitrate_of_idle {s : State} {e : EngineId} (h : (s.eng e).free = false ∨ s.candidates e = []) :
    s.arbitrate e = s := by
  rcases s.arbitrate_cases e with ⟨hs, -⟩ | ⟨p, op, hfree, hp, -⟩
  · exact hs
  · rcases h with h | h
    · rw [h] at hfree
      cases hfree
    · rw [(s.choose_eq_none_iff e).mpr h] at hp
      cases hp

theorem State.arbitrate_of_choice {s : State} {e : EngineId} {p : PosId} {op : CardOp} (h1 : (s.eng e).free = true)
    (h2 : s.choose e = some p) (h3 : (s.pos p).pendingOp = some op) :
    s.arbitrate e = s.grant e p op ((readerIndex e p + 1) % busSize e) 1 := by
  unfold State.arbitrate
  rw [if_pos h1, h2]
  dsimp only
  rw [h3]

/-- The place after a reader on the bus of an engine. -/
theorem nextReader_eq (e : EngineId) (p : PosId) :
    (readerIndex e p + 1) % busSize e = if e = 4 then (p.val + 1) % 48 else (p.val % 12 + 1) % 12 := by
  unfold readerIndex busSize reliefEngine
  split <;> rfl

/-- Settles O51: the class, the order within it, and what a grant does. -/
theorem arbiterServesHighestClass : Obligations.ArbiterServesHighestClass := by
  unfold Obligations.ArbiterServesHighestClass
  refine ⟨fun s e => ?_, fun s e p => ?_, fun s e => ?_⟩
  · intro cls
    have hcls (q : PosId) (hq : q ∈ s.candidates e) : ((s.pos q).urgency s.settings.urgency).rank = cls q :=
      Position.urgency_rank (State.mem_candidates.mp hq).1 _
    refine ⟨s.choose_eq_none_iff e, fun p hp => ?_⟩
    obtain ⟨u, hu, hpick, hleast⟩ := State.choose_class hp
    have hmem := State.choose_mem hp
    have hrank : u.rank = cls p := hu ▸ hcls p hmem
    refine ⟨hmem, fun q hq => ?_, fun q hq heq => ?_⟩
    · rw [← hrank, ← hcls q hq]
      exact hleast q hq
    · have hq' : q ∈ s.members e u :=
        State.mem_members.mpr ⟨hq, Urgency.rank_injective ((hcls q hq).trans (heq.trans hrank.symm))⟩
      have hcand {r : PosId} (hr : r ∈ s.members e u) := (State.mem_members.mp hr).1
      exact pick_first (s.members_sorted e u) (fun r hr => (s.candidate_reader (hcand hr)).1)
        (fun r hr t ht => State.candidate_reader_le (hcand hr) (hcand ht)) hpick hq'
  · rw [State.mem_candidates, engineOf_eq_iff, Option.isSome_iff_ne_none]
  · intro free
    have hfree := Engine.free_iff (s.eng e)
    refine ⟨fun h => State.arbitrate_of_idle (h.imp_left fun hn => ?_), fun p op hf hp hop => ?_⟩
    · exact Bool.eq_false_iff.mpr fun hc => hn (hfree.mp hc)
    · rw [State.arbitrate_of_choice (hfree.mpr hf) hp hop, nextReader_eq]
      rfl

end Sys2Proof.Machine
end

section
/-!
PROOFS. What a completion does at its engine: what happens at the position leaves every engine and its counts alone
(R89), so the lane after it is that of R91 and R92.
-/

namespace Sys2Proof.Machine

/-- The engines and their counts are as they were. -/
structure State.SameEngines (s t : State) : Prop where
  engines : t.engines = s.engines
  counts : t.acct.engines = s.acct.engines

theorem State.SameEngines.refl (s : State) : s.SameEngines s := ⟨rfl, rfl⟩

theorem State.SameEngines.trans {s t u : State} (h1 : s.SameEngines t) (h2 : t.SameEngines u) : s.SameEngines u :=
  ⟨h2.engines.trans h1.engines, h2.counts.trans h1.counts⟩

theorem State.SameEngines.ite {s t u : State} {c : Prop} [Decidable c] (h1 : s.SameEngines t) (h2 : s.SameEngines u) :
    s.SameEngines (if c then t else u) := by
  split
  · exact h1
  · exact h2

theorem State.SameEngines.eng {s t : State} (h : s.SameEngines t) (e : EngineId) : t.eng e = s.eng e :=
  State.eng_congr h.engines e

/-! ### Changes of positions, totals, records and the tear list -/

theorem State.modPos_bench (s : State) (p : PosId) (f : Position → Position) : s.SameEngines (s.modPos p f) := ⟨rfl, rfl⟩

theorem State.mapPos_bench (s : State) (f : PosId → Position → Position) : s.SameEngines (s.mapPos f) :=
  ⟨s.mapPos_engines f, congrArg Accounting.engines (s.mapPos_acct f)⟩

theorem State.modTotals_bench (s : State) (f : Totals → Totals) : s.SameEngines (s.modTotals f) := ⟨rfl, rfl⟩

theorem State.modGlobal_bench (s : State) (f : GlobalCounts → GlobalCounts) : s.SameEngines (s.modGlobal f) := ⟨rfl, rfl⟩

theorem State.writeRecord_bench (s : State) (r : Word16 → CallRecord) : s.SameEngines (s.writeRecord r) := ⟨rfl, rfl⟩

theorem State.modTear_bench (s : State) (f : TearList → TearList) : s.SameEngines (s.modTear f) := ⟨rfl, rfl⟩

theorem State.modLink_bench (s : State) (f : Link → Link) : s.SameEngines (s.modLink f) := ⟨rfl, rfl⟩

theorem State.releaseWaiters_bench (s : State) (k : CardKey) : s.SameEngines (s.releaseWaiters k) := by
  unfold State.releaseWaiters
  exact s.mapPos_bench _

theorem State.handNotices_bench (s : State) (k : CardKey) : s.SameEngines (s.handNotices k) := by
  unfold State.handNotices
  exact s.mapPos_bench _

theorem State.closeCall_bench (s : State) (p : PosId) : s.SameEngines (s.closeCall p) := by
  unfold State.closeCall
  split
  · exact .refl s
  · exact (s.writeRecord_bench _).trans (State.modPos_bench ..)

theorem State.closeRecovery_bench (s : State) (p : PosId) (why : EndCause) : s.SameEngines (s.closeRecovery p why) := by
  unfold State.closeRecovery
  split
  · exact .refl s
  · exact (s.writeRecord_bench _).trans (State.modPos_bench ..)

theorem State.endCall_bench (s : State) (p : PosId) (why : EndCause) : s.SameEngines (s.endCall p why) := by
  rw [State.endCall_eq]
  exact s.modPos_bench ..

theorem State.evict_bench (s : State) (t : TearEntry) : s.SameEngines (s.evict t) := by
  unfold State.evict
  refine .trans ?_ (State.releaseWaiters_bench _ _)
  exact (((s.modTear_bench _).trans (State.modTotals_bench ..)).trans (State.modGlobal_bench ..)).trans
    (State.modLink_bench ..)

theorem State.mergeEntry_bench (s : State) (old new : TearEntry) : s.SameEngines (s.mergeEntry old new) := ⟨rfl, rfl⟩

theorem State.createEntry_bench (s : State) (t : TearEntry) : s.SameEngines (s.createEntry t) := by
  refine State.SameEngines.trans ?_ (State.handNotices_bench _ _)
  split
  · exact s.mergeEntry_bench ..
  · split
    · exact .ite (s.modTear_bench _) ((s.evict_bench _).trans (State.modTear_bench ..))
    · exact s.modTear_bench _

theorem State.passDebt_bench (s : State) (p : PosId) : s.SameEngines (s.passDebt p) := by
  unfold State.passDebt
  dsimp only
  split
  · exact s.modPos_bench ..
  · split
    · exact s.modPos_bench ..
    · exact (s.modPos_bench ..).trans (State.createEntry_bench ..)

/-! ### Recoveries and the finish of CLEARING -/

theorem State.settleHandOver_bench (s : State) (p : PosId) : s.SameEngines (s.settleHandOver p) := by
  unfold State.settleHandOver
  exact .ite ((s.closeRecovery_bench p _).trans (State.modPos_bench ..)) (.refl s)

theorem State.handOver_bench (s : State) (p : PosId) : s.SameEngines (s.handOver p) := by
  unfold State.handOver
  dsimp only
  split
  · exact .refl s
  · split
    · exact .refl s
    · refine .trans (.trans (.trans ?_ (State.modPos_bench ..)) (State.releaseWaiters_bench _ _))
        (State.settleHandOver_bench _ p)
      exact ⟨rfl, rfl⟩

theorem State.enterRecovering_bench (s : State) (p : PosId) : s.SameEngines (s.enterRecovering p) := by
  have h := s.modPos_bench p (·.enter .recovering)
  exact .ite ((h.trans (State.modPos_bench ..)).trans (State.handOver_bench _ p)) h

theorem State.arriveReady_bench (s : State) (p : PosId) : s.SameEngines (s.arriveReady p) :=
  .ite (s.modPos_bench ..) (.ite (s.enterRecovering_bench p) (s.modPos_bench ..))

theorem State.finishRecovery_bench (s : State) (p : PosId) : s.SameEngines (s.finishRecovery p) :=
  .ite ((s.closeRecovery_bench p _).trans (State.modPos_bench ..))
    ((s.closeRecovery_bench p _).trans (State.arriveReady_bench _ p))

theorem State.loseRecovery_bench (s : State) (p : PosId) : s.SameEngines (s.loseRecovery p) :=
  ((s.passDebt_bench p).trans (State.closeRecovery_bench _ p _)).trans (State.modPos_bench ..)

theorem State.finishClearing_bench (s : State) (p : PosId) : s.SameEngines (s.finishClearing p) := by
  have h := s.closeCall_bench p
  have hmove (f : Position → Position) : s.SameEngines ((s.closeCall p).modPos p f) := h.trans (State.modPos_bench ..)
  exact .ite (hmove _) (.ite (hmove _) (.ite (hmove _) (.ite (h.trans (State.enterRecovering_bench _ p))
    (.ite (hmove _) (.ite (hmove _) (.ite (hmove _) (hmove _)))))))

theorem State.settle_bench (s : State) (p : PosId) : s.SameEngines (s.settle p) :=
  .ite (s.finishClearing_bench p) (.ite (s.finishRecovery_bench p) (.refl s))

/-! ### The outcome at the position -/

theorem State.passOrLose_bench (s : State) (p : PosId) : s.SameEngines (s.passOrLose p) :=
  .ite (s.modPos_bench ..) (s.passDebt_bench p)

theorem State.cardLeaves_bench (s : State) (p : PosId) : s.SameEngines (s.cardLeaves p) := by
  have hleft := s.modPos_bench p fun x => { x with cardLeft := true }
  unfold State.cardLeaves
  split
  case h_1 | h_2 => exact .refl s
  case h_3 | h_4 | h_5 | h_9 => exact s.modPos_bench ..
  case h_6 | h_7 | h_8 =>
    exact (((s.modGlobal_bench _).trans (State.modPos_bench ..)).trans (State.endCall_bench _ p _)).trans
      (State.passOrLose_bench _ p)
  case h_10 => exact hleft.trans (State.passOrLose_bench _ p)
  case h_11 =>
    exact .ite (hleft.trans (State.modPos_bench ..))
      (.ite (hleft.trans (State.modPos_bench ..)) (hleft.trans (State.loseRecovery_bench _ p)))

theorem State.debtLost_bench (s : State) (p : PosId) : s.SameEngines (s.debtLost p) := by
  unfold State.debtLost
  exact (s.modPos_bench ..).trans (State.modTotals_bench ..)

theorem State.cardFault_bench (s : State) (p : PosId) : s.SameEngines (s.cardFault p) := by
  rw [State.cardFault_def]
  refine (s.debtLost_bench p).trans ?_
  split
  case h_1 | h_2 => exact State.endCall_bench ..
  case h_3 => exact (State.closeRecovery_bench ..).trans (State.modPos_bench ..)
  all_goals exact .refl _

theorem State.strike_bench (s : State) (p : PosId) : s.SameEngines (s.strike p) :=
  .ite (s.cardFault_bench p) (s.modPos_bench ..)

theorem State.unitDone_bench (s : State) (p : PosId) : s.SameEngines (s.unitDone p) := ⟨rfl, rfl⟩

theorem State.unitsLost_bench (s : State) (p : PosId) (counter : Nat) : s.SameEngines (s.unitsLost p counter) := by
  have h : s.SameEngines ((s.unitBurned p).modPos p fun x => { x with remaining := counter }) := ⟨rfl, rfl⟩
  exact .ite (h.trans (State.cardFault_bench ..)) (h.trans (State.modPos_bench ..))

theorem State.burnOutcome_bench (s : State) (p : PosId) (before : Nat) (o : OpOutcome) :
    s.SameEngines (s.burnOutcome p before o) := by
  cases o with
  | done n => exact s.unitDone_bench p
  | notTaken n => exact s.strike_bench p
  | timeout => exact (s.modPos_bench ..).trans (State.strike_bench ..)
  | busFault | cardGone | abandoned => exact s.modPos_bench ..
  | anomaly counter =>
    exact (s.modPos_bench ..).trans (.ite (State.unitsLost_bench ..) (State.cardFault_bench ..))
  | read h | checkFail | noCard => exact .refl s

theorem State.otherCard_bench (s : State) (p : PosId) : s.SameEngines (s.otherCard p) :=
  .ite (s.modPos_bench ..) (s.cardLeaves_bench p)

theorem State.resolveVerify_bench (s : State) (p : PosId) (before : Nat) (h : Header) :
    s.SameEngines (s.resolveVerify p before h) := by
  have h1 := s.modPos_bench p fun x => { x with doubt := none }
  have h2 := h1.trans (State.modPos_bench _ p (·.markAnomaly))
  exact .ite (s.otherCard_bench p) (.ite (h1.trans (State.unitDone_bench ..)) (.ite h1
    (.ite (h2.trans (State.unitsLost_bench ..)) (h2.trans (State.cardFault_bench ..)))))

theorem State.verifyOutcome_bench (s : State) (p : PosId) (o : OpOutcome) : s.SameEngines (s.verifyOutcome p o) := by
  cases o with
  | read h =>
    unfold State.verifyOutcome
    dsimp only
    split
    · exact .refl s
    · exact s.resolveVerify_bench ..
  | checkFail | noCard => exact .ite (s.strike_bench p) (.refl s)
  | busFault | abandoned | done n | notTaken n | anomaly n | cardGone | timeout => exact .refl s

theorem State.identifyRead_bench (s : State) (p : PosId) (h : Header) : s.SameEngines (s.identifyRead p h) := by
  have h0 := s.modPos_bench p fun x => { x with retry := 0 }
  have hmove (f : Position → Position) := h0.trans (State.modPos_bench _ p f)
  exact .ite (hmove _) (.ite (hmove _) (.ite ((hmove _).trans (State.enterRecovering_bench _ p))
    (.ite (hmove _) (.ite (hmove _) ((hmove _).trans (State.arriveReady_bench _ p))))))

theorem State.identifyOutcome_bench (s : State) (p : PosId) (o : OpOutcome) : s.SameEngines (s.identifyOutcome p o) := by
  refine .ite ?_ (.refl s)
  cases o with
  | read h => exact s.identifyRead_bench p h
  | checkFail | noCard => exact .ite (s.modPos_bench ..) (.refl s)
  | busFault | abandoned | done n | notTaken n | anomaly n | cardGone | timeout => exact .refl s

theorem State.takeOutcome_bench (s : State) (p : PosId) (op : EngineOp) (o : OpOutcome) :
    s.SameEngines (s.takeOutcome p op o) := by
  unfold State.takeOutcome
  split
  · exact s.identifyOutcome_bench p o
  · exact s.verifyOutcome_bench p o
  · exact s.burnOutcome_bench p op.before o

theorem State.passLost_bench (s : State) (p : PosId) : s.SameEngines (s.passLost p) :=
  .ite (.ite (s.loseRecovery_bench p) (s.passDebt_bench p)) (.refl s)

theorem State.Reallocated.bench {s t : State} (h : s.Reallocated t) : s.SameEngines t :=
  ⟨h.engines, by rw [h.acct]⟩

/-- The position takes a completion; no engine does. -/
theorem State.takeCompletion_bench (s : State) (p : PosId) (op : EngineOp) (o : OpOutcome) :
    s.SameEngines (s.takeCompletion p op o) := by
  have h1 := s.modPos_bench p fun x => { x with inFlight := none }
  refine .trans (.trans (.trans (t := if (s.pos p).discarding then _ else _) ?_ (State.passLost_bench _ p))
    (State.settle_bench _ p)) (State.reallocated_applyPending _ p).bench
  exact .ite h1 (h1.trans (State.takeOutcome_bench ..))

/-! ### The completion at the engine -/

/-- The state in which a completion has been taken, before the operations that follow are derived and granted. -/
def State.completed (s : State) (e : EngineId) (op : EngineOp) (o : OpOutcome) : State :=
  let s1 := (s.modEng e (·.complete o)).modCounts e (·.completed o)
  let s2 := s1.takeCompletion op.position op o
  if (s.eng e).laneAfter o = .faulted then s2.relieveLane e else s2

theorem State.complete_upToGrants (s : State) (e : EngineId) (op : EngineOp) (o : OpOutcome) :
    (s.completed e op o).UpToGrants (s.complete e op o) :=
  ((State.derive_upToGrants _ _).trans (State.burstOn_upToGrants ..)).trans (State.serve_upToGrants _)

theorem State.completed_bench (s : State) (e : EngineId) (op : EngineOp) (o : OpOutcome) :
    State.SameEngines ((s.modEng e (·.complete o)).modCounts e (·.completed o)) (s.completed e op o) := by
  have h := ((s.modEng e (·.complete o)).modCounts e (·.completed o)).takeCompletion_bench op.position op o
  exact .ite (h.trans (State.reallocated_relieveLane _ e).bench) h

theorem State.modCounts_self (s : State) (e : EngineId) (f : EngineCounts → EngineCounts) :
    (s.modCounts e f).acct.engines[e.val] = f s.acct.engines[e.val] := by
  simp [State.modCounts, State.modAcct]

/-- The engine and its counts after a completion. -/
theorem State.complete_engine (s : State) (e : EngineId) (op : EngineOp) (o : OpOutcome) :
    ((s.eng e).complete o).SameButGrant ((s.complete e op o).eng e) ∧
      (s.acct.engines[e.val].completed o).SameButGrants (s.complete e op o).acct.engines[e.val] := by
  have hu := s.complete_upToGrants e op o
  have hb := s.completed_bench e op o
  refine ⟨?_, ?_⟩
  · have h := hu.eng e
    rwa [hb.eng e, State.modCounts_eng, State.modEng_eng_self] at h
  · have h := hu.2.2.1 e
    rwa [hb.counts, State.modCounts_self] at h

/-- What is due at an engine. -/
theorem Engine.due_of {g : Engine} {op : EngineOp} {o : OpOutcome} (h : g.Due op o) : g.due = some (op, o) := by
  obtain ⟨hop, ⟨hl, hs⟩ | ⟨hl, ho⟩⟩ := h
  · simp [Engine.due, hop, hl, hs]
  · simp [Engine.due, hop, hl, ho]

theorem exec_completion {s : State} {e : EngineId} {op : EngineOp} {o : OpOutcome} (h : (s.eng e).Due op o) :
    exec (completionOf op.op e) s = .next (s.complete e op o) := by
  have hk : s.completeKind e op.op = s.complete e op o := by
    unfold State.completeKind
    rw [Engine.due_of h]
    exact if_pos rfl
  rw [← hk]
  cases op.op <;> rfl

theorem EngineCounts.completed_eq (o : OpOutcome) (c : EngineCounts) :
    c.completed o = match o with
      | .done _ => { c with done := min 65535 (c.done + 1) }
      | .notTaken _ => { c with notTaken := min 65535 (c.notTaken + 1) }
      | .timeout => { c with timeout := min 65535 (c.timeout + 1) }
      | .cardGone => { c with cardGone := min 65535 (c.cardGone + 1) }
      | .busFault => { c with busFault := min 65535 (c.busFault + 1) }
      | .abandoned => { c with abandoned := min 65535 (c.abandoned + 1) }
      | .read _ | .checkFail | .noCard | .anomaly _ => c := by
  cases o <;> rfl

theorem Engine.laneAfter_disabled {g : Engine} (h : g.disablePending = true) (o : OpOutcome) :
    g.laneAfter o = .disabled := by
  unfold Engine.laneAfter
  exact if_pos h

/-- The lane after a completion where no disable is pending (R91, R92). -/
theorem Engine.laneAfter_rows {g : Engine} (h : g.disablePending = false) (o : OpOutcome) :
    (o = .busFault → g.lane = .inService → g.laneAfter o = .suspect) ∧
    (o = .busFault → g.lane = .suspect → g.laneAfter o = .faulted) ∧
    (o = .abandoned → g.laneAfter o = g.lane) ∧
    (o ≠ .busFault → g.lane = .inService → g.laneAfter o = .inService) ∧
    (o ≠ .busFault → o ≠ .abandoned → g.lane = .suspect → g.laneAfter o = .inService) := by
  unfold Engine.laneAfter
  rw [if_neg (by rw [h]; nofun)]
  generalize g.lane = l
  refine ⟨?_, ?_, ?_, ?_, ?_⟩
  · rintro rfl rfl
    rfl
  · rintro rfl rfl
    rfl
  · rintro rfl
    cases l <;> rfl
  · rintro ho rfl
    cases o <;> first | rfl | exact absurd rfl ho
  · rintro ho ha rfl
    cases o <;> first | rfl | exact absurd rfl ho | exact absurd rfl ha

/-- Settles O20: the engine, but for what a grant moves, is as the completion left it. -/
theorem laneStateAfterCompletion : Obligations.LaneStateAfterCompletion := by
  unfold Obligations.LaneStateAfterCompletion
  intro s e op o h
  obtain ⟨heng, hcounts⟩ := s.complete_engine e op o
  rw [EngineCounts.completed_eq] at hcounts
  have hlane : ((s.complete e op o).eng e).lane = (s.eng e).laneAfter o := congrArg Engine.lane heng
  refine ⟨_, exec_completion h, congrArg Engine.laneReset heng, congrArg Engine.disablePending heng, fun hd => ?_,
    fun hd => ?_, hcounts⟩
  · rw [hlane, Engine.laneAfter_disabled hd]
  · rw [hlane]
    exact Engine.laneAfter_rows hd o

end Sys2Proof.Machine
end

section
/-!
PROOFS. What a position makes of a completion: the state in which its outcome is taken, and the rows of an IDENTIFY
(R21, R22, R89).
-/

namespace Sys2Proof.Machine

/-! ### The completion, up to the operations granted after it -/

/-- The state in which the outcome of an operation is taken: the engine and the position are idle again. -/
def State.ended (s : State) (e : EngineId) (op : EngineOp) (o : OpOutcome) : State :=
  ((s.modEng e (·.complete o)).modCounts e (·.completed o)).modPos op.position fun x => { x with inFlight := none }

theorem State.ended_pos (s : State) (e : EngineId) (op : EngineOp) (o : OpOutcome) (q : PosId) :
    (s.ended e op o).pos q = if q = op.position then { s.pos op.position with inFlight := none } else s.pos q := by
  unfold State.ended
  rw [State.modPos_pos]
  rfl

theorem State.ended_pos_self (s : State) (e : EngineId) (op : EngineOp) (o : OpOutcome) :
    (s.ended e op o).pos op.position = { s.pos op.position with inFlight := none } := by
  rw [State.ended_pos, if_pos rfl]

/-- A completion whose lane is not lost to it: the outcome, and what follows it at the position. -/
theorem State.completed_eq {s : State} {e : EngineId} {op : EngineOp} {o : OpOutcome}
    (hd : (s.pos op.position).discarding = false) (hl : (s.eng e).laneAfter o ≠ .faulted) :
    s.completed e op o = (((((s.ended e op o).takeOutcome op.position op o).passLost op.position).settle
      op.position).applyPendingAllocation op.position) := by
  unfold State.completed
  dsimp only
  rw [if_neg hl]
  unfold State.takeCompletion
  dsimp only
  rw [if_neg (by rw [State.modCounts_pos, State.modEng_pos, hd]; nofun)]
  rfl

theorem State.passLost_of_kept {s : State} {p : PosId} (h : (s.pos p).cardLost = false) : s.passLost p = s := by
  unfold State.passLost
  rw [if_neg (by rw [h]; nofun)]

theorem State.applyPending_of_none {s : State} {p : PosId} (h : (s.pos p).pendingAlloc = none) :
    s.applyPendingAllocation p = s := by
  unfold State.applyPendingAllocation
  rw [h]

/-- An outcome after which nothing is lost, settled or pending is the whole of its completion. -/
theorem State.completed_of_outcome {s v : State} {e : EngineId} {op : EngineOp} {o : OpOutcome}
    (hd : (s.pos op.position).discarding = false) (hl : (s.eng e).laneAfter o ≠ .faulted)
    (hv : (s.ended e op o).takeOutcome op.position op o = v) (hlost : (v.pos op.position).cardLost = false)
    (hset : v.settle op.position = v) (halloc : (v.pos op.position).pendingAlloc = none) : s.completed e op o = v := by
  rw [State.completed_eq hd hl, hv, State.passLost_of_kept hlost, hset, State.applyPending_of_none halloc]

/-! ### An operation due at a position -/

/-- The position and the engine with the operation ended. -/
def State.idled (s : State) (e : EngineId) (p : PosId) : State :=
  (s.modEng e fun g => { g with op := none }).modPos p fun x => { x with inFlight := none }

theorem State.idled_pos_self (s : State) (e : EngineId) (p : PosId) :
    (s.idled e p).pos p = { s.pos p with inFlight := none } := by
  unfold State.idled
  rw [State.modPos_pos_self, State.modEng_pos]

/-- An operation whose bus part has ended with an outcome. -/
def EngineOp.over (p : PosId) (kind : CardOp) (b : Nat) (k : Option CardKey) (o : OpOutcome) : EngineOp :=
  { position := p, op := kind, step := .ended o, before := b, key := k }

/-- Outcomes that count nothing at the engine. -/
def OpOutcome.Quiet : OpOutcome → Prop
  | .read _ | .checkFail | .noCard => True
  | _ => False

theorem State.modCounts_id (s : State) (e : EngineId) {f : EngineCounts → EngineCounts}
    (h : f s.acct.engines[e.val] = s.acct.engines[e.val]) : s.modCounts e f = s := by
  unfold State.modCounts State.modAcct
  dsimp only
  rw [h, Vector.set_getElem_self]

section
variable {s : State} {e : EngineId} {p : PosId} {kind : CardOp} {b : Nat} {k : Option CardKey} {o : OpOutcome}
  (h : s.DueAt e p kind b k o)
include h

theorem State.DueAt.due :
    (s.eng e).Due (.over p kind b k o) o := by
  obtain ⟨hop, hreset, -⟩ := h
  exact ⟨hop, .inl ⟨hreset, rfl⟩⟩

theorem State.DueAt.discarding : (s.pos p).discarding = false := by
  obtain ⟨-, -, -, -, hf, -⟩ := h
  simp [Position.discarding, hf]

theorem State.DueAt.laneAfter : (s.eng e).laneAfter o ≠ .faulted := by
  obtain ⟨-, -, hlane, hdisable, -⟩ := h
  obtain ⟨hfault, -, -, hkept, -⟩ := Engine.laneAfter_rows hdisable o
  by_cases ho : o = .busFault
  · rw [hfault ho hlane]
    nofun
  · rw [hkept ho hlane]
    nofun

/-- An outcome that counts nothing leaves engine and position idle before it is taken. -/
theorem State.DueAt.ended_quiet (ho : o.Quiet) (op : EngineOp) (hp : op.position = p) : s.ended e op o = s.idled e p := by
  obtain ⟨-, hreset, hlane, hdisable, -⟩ := h
  have hc : s.modEng e (·.complete o) = s.modEng e fun g => { g with op := none } := by
    refine State.modEng_congr ?_
    have hafter : (s.eng e).laneAfter o = .inService := by
      obtain ⟨-, -, -, hkept, -⟩ := Engine.laneAfter_rows hdisable o
      refine hkept ?_ hlane
      rintro rfl
      exact ho
    unfold Engine.complete
    generalize s.eng e = g at hafter hlane hreset hdisable
    rw [hafter]
    cases g
    subst hlane hreset hdisable
    rfl
  have hn : (s.modEng e (·.complete o)).modCounts e (·.completed o) = s.modEng e (·.complete o) := by
    refine State.modCounts_id _ e ?_
    rw [EngineCounts.completed_eq]
    cases o <;> first | rfl | exact ho.elim
  unfold State.ended State.idled
  rw [hn, hc, hp]

/-- The answer to an operation whose outcome counts nothing and leaves nothing to settle. -/
theorem State.DueAt.answers {v : State} (ho : o.Quiet) (hv : (s.idled e p).takeOutcome p (.over p kind b k o) o = v)
    (hlost : (v.pos p).cardLost = false) (hset : v.settle p = v) (halloc : (v.pos p).pendingAlloc = none) :
    ∃ t, exec (completionOf kind e) s = .next t ∧ v.UpToGrants t := by
  refine ⟨_, exec_completion h.due, ?_⟩
  have hc : s.completed e (.over p kind b k o) o = v :=
    State.completed_of_outcome h.discarding h.laneAfter (by rw [h.ended_quiet ho _ rfl]; exact hv) hlost hset halloc
  rw [← hc]
  exact s.complete_upToGrants e _ o

end

/-! ### The rows of an IDENTIFY -/

theorem Position.arriveRefused_eq {x : Position} (h : x.blockPending = false) (why : RefusalCause) :
    x.arriveRefused why = x.refusedWith why := by
  unfold Position.arriveRefused
  rw [if_neg (by rw [h]; nofun), Position.enter_eq_rested rfl rfl]
  rfl

theorem State.modPos_refused {s : State} {p : PosId} {f : Position → Position} {why : RefusalCause}
    (h : (f (s.pos p)).blockPending = false) :
    (s.modPos p fun x => (f x).arriveRefused why) = s.modPos p fun x => (f x).refusedWith why :=
  State.modPos_congr (Position.arriveRefused_eq h why)

theorem State.listed_of_key {s : State} {x : Position} {k : CardKey} (h : x.key = some k) :
    s.listed x = (s.tearEntry k).isSome := by
  simp [State.listed, h]

section
variable {s : State} {p : PosId} {h : Header} (hb : (s.pos p).blockPending = false)

section
include hb

theorem State.identifyRead_foreign (hk : h.kind ≠ 0x5A) :
    s.identifyRead p h = s.modPos p fun x => { x with retry := 0 }.refusedWith .foreign := by
  unfold State.identifyRead
  dsimp only
  rw [if_pos hk, State.modPos_modPos]
  exact State.modPos_refused hb

theorem State.identifyRead_face (hk : h.kind = 0x5A) (hf : h.face = 0 ∨ 1000 < h.face) :
    s.identifyRead p h = s.modPos p fun x => { x with retry := 0 }.refusedWith .invalid := by
  unfold State.identifyRead
  dsimp only
  rw [if_neg (fun hc => hc hk), if_pos hf, State.modPos_modPos]
  exact State.modPos_refused hb

end

section
variable (hk : h.kind = 0x5A) (hf : 1 ≤ h.face ∧ h.face ≤ 1000)
include hk hf

theorem State.identifyRead_listed (ht : s.tearEntry h.key ≠ none) :
    s.identifyRead p h =
      (s.modPos p fun x => ({ x with retry := 0 } : Position).hold h (min h.counter h.face)).enterRecovering p := by
  unfold State.identifyRead
  dsimp only
  rw [if_neg (fun hc => hc hk), if_neg (by simp only [Config.faceMax]; omega),
    if_pos (Option.isSome_iff_ne_none.mpr ht), State.modPos_modPos]

variable (ht : s.tearEntry h.key = none)
include ht hb

theorem State.identifyRead_counter (hc : h.face < h.counter) :
    s.identifyRead p h = s.modPos p fun x => { x with retry := 0 }.refusedWith .invalid := by
  unfold State.identifyRead
  dsimp only
  rw [if_neg (fun hc => hc hk), if_neg (by simp only [Config.faceMax]; omega), if_neg (by rw [ht]; nofun), if_pos hc,
    State.modPos_modPos]
  exact State.modPos_refused hb

theorem State.identifyRead_empty (hc : h.counter = 0) :
    s.identifyRead p h = s.modPos p fun x =>
      { x with retry := 0, identity := some { key := h.key, face := h.face }, remaining := 0 }.refusedWith .empty := by
  unfold State.identifyRead
  dsimp only
  rw [if_neg (fun hc => hc hk), if_neg (by simp only [Config.faceMax]; omega), if_neg (by rw [ht]; nofun),
    if_neg (by omega), if_pos hc, State.modPos_modPos]
  exact State.modPos_refused hb

theorem State.identifyRead_ready (hc : 1 ≤ h.counter) (hle : h.counter ≤ h.face) :
    s.identifyRead p h = s.modPos p fun x =>
      { (x.rested .ready) with
        retry := 0, identity := some { key := h.key, face := h.face }, remaining := h.counter } := by
  unfold State.identifyRead
  dsimp only
  rw [if_neg (fun hc => hc hk), if_neg (by simp only [Config.faceMax]; omega), if_neg (by rw [ht]; nofun),
    if_neg (by omega), if_neg (by omega), State.modPos_modPos]
  unfold State.arriveReady
  dsimp only
  have hlisted : (s.modPos p fun x => ({ x with retry := 0 } : Position).hold h h.counter).listed
      ((s.modPos p fun x => ({ x with retry := 0 } : Position).hold h h.counter).pos p) = false := by
    rw [State.modPos_pos_self s p fun x => ({ x with retry := 0 } : Position).hold h h.counter]
    rw [State.listed_of_key (k := h.key) rfl]
    exact congrArg Option.isSome ht
  rw [if_neg, if_neg (by rw [hlisted]; nofun), State.modPos_modPos]
  · exact State.modPos_congr (Position.enter_eq_rested rfl rfl _)
  · rw [State.modPos_pos_self s p fun x => ({ x with retry := 0 } : Position).hold h h.counter]
    exact fun hc => Bool.false_ne_true (hb.symm.trans hc)

end

end

theorem State.identifyOutcome_read {s : State} {p : PosId} (hs : (s.pos p).state = .reading) (h : Header) :
    s.identifyOutcome p (.read h) = s.identifyRead p h := by
  unfold State.identifyOutcome
  rw [if_pos hs]

theorem State.identifyOutcome_misread {s : State} {p : PosId} {o : OpOutcome} (hs : (s.pos p).state = .reading)
    (hp : (s.pos p).card.accepted = some .present) (ho : o = .checkFail ∨ o = .noCard) :
    s.identifyOutcome p o = s.modPos p (·.misread) := by
  unfold State.identifyOutcome
  rw [if_pos hs]
  have hpresent : (s.pos p).present = true := decide_eq_true hp
  rcases ho with rfl | rfl <;> exact if_pos hpresent

theorem Position.misread_again {x : Position} (h : x.retry < 2) : x.misread = { x with retry := x.retry + 1 } := by
  unfold Position.misread
  exact if_neg (by simp only [Config.retryLimit]; omega)

theorem Position.misread_third {x : Position} (h : x.retry = 2) (hb : x.blockPending = false) :
    x.misread = { x with retry := 0 }.refusedWith .unreadable := by
  unfold Position.misread
  rw [if_pos (by simp only [Config.retryLimit]; omega)]
  exact Position.arriveRefused_eq (x := { x with retry := 0 }) hb _

/-- An outcome of an IDENTIFY that leaves the position in a state with nothing to settle. -/
theorem State.DueAt.identifies {s : State} {e : EngineId} {p : PosId} {b : Nat} {k : Option CardKey} {o : OpOutcome}
    (h : s.DueAt e p .identify b k o) (ho : o.Quiet) {f : Position → Position}
    (hv : (s.idled e p).identifyOutcome p o = (s.idled e p).modPos p f)
    (hlost : (f { s.pos p with inFlight := none }).cardLost = (s.pos p).cardLost)
    (halloc : (f { s.pos p with inFlight := none }).pendingAlloc = (s.pos p).pendingAlloc)
    (hset : ((s.idled e p).modPos p f).settle p = (s.idled e p).modPos p f) :
    ∃ t, exec (.identifyCompletion e) s = .next t ∧ ((s.idled e p).modPos p f).UpToGrants t := by
  have ⟨_, _, _, _, _, hnone, hkept⟩ := h
  refine h.answers ho hv ?_ hset ?_
  · rw [State.modPos_pos_self, State.idled_pos_self, hlost, hkept]
  · rw [State.modPos_pos_self, State.idled_pos_self, halloc, hnone]

/-- A position whose listed card has just been read, in RECOVERING. -/
def Position.found (h : Header) (x : Position) : Position :=
  { (x.rested .recovering) with
    retry := 0, identity := some { key := h.key, face := h.face }, remaining := min h.counter h.face }

section
variable {s : State} {p : PosId} {h : Header} (hk : h.kind = 0x5A) (hf : 1 ≤ h.face ∧ h.face ≤ 1000)
include hk hf

theorem State.identifyRead_waits (ht : s.tearEntry h.key ≠ none) (hfull : 64 ≤ s.queue.records.length + s.reservations) :
    s.identifyRead p h = s.modPos p (·.found h) := by
  rw [State.identifyRead_listed hk hf ht, State.enterRecovering_waits, State.modPos_modPos]
  · rfl
  · rwa [State.reservations_modPos rfl, State.modPos_queue]

theorem State.identifyRead_takes {t0 : TearEntry} (ht : s.tearEntry h.key = some t0)
    (hroom : s.queue.records.length + s.reservations < 64)
    (hd : 0 < (((s.pos p).found h).owing t0 s.link.stamp).debt) :
    s.identifyRead p h = (s.modPos p fun x => { (x.found h) with reservation := true }).handing p t0 := by
  rw [State.identifyRead_listed hk hf (by rw [ht]; nofun), State.enterRecovering_goesOn (k := h.key) (t0 := t0),
    State.modPos_modPos]
  · rfl
  · rwa [State.reservations_modPos rfl, State.modPos_queue]
  · rw [State.modPos_pos_self]
    rfl
  · exact ht
  · rw [State.modPos_pos_self]
    rwa [Position.owing_debt] at hd

end

theorem State.idled_room (s : State) (e : EngineId) (p : PosId) :
    (s.idled e p).queue.records.length + (s.idled e p).reservations = s.queue.records.length + s.reservations := by
  unfold State.idled
  rw [State.reservations_modPos rfl]
  rfl

theorem State.ended_same (s : State) (e : EngineId) (op : EngineOp) (o : OpOutcome) (q : PosId) :
    (s.pos q).SameButOp ((s.ended e op o).pos q) := by
  rw [State.ended_pos]
  split
  · next hq =>
    subst hq
    rfl
  · exact .refl _

/-- What differs by operations and engines from a state that differs so from another. -/
theorem State.UpToGrants.upToEngines {s u t : State} (h : u.UpToGrants t) (hpos : ∀ q, (s.pos q).SameButOp (u.pos q))
    (hrest : u = { s with
      positions := u.positions, engines := u.engines, acct := { s.acct with engines := u.acct.engines } }) :
    s.UpToEngines t := by
  obtain ⟨h1, -, -, h4⟩ := h
  refine ⟨fun q => (hpos q).trans (h1 q), ?_⟩
  rw [hrest] at h4
  exact h4

theorem State.burstOn_of_failed {s : State} {e : EngineId} {p : PosId} {o : OpOutcome} (h : ∀ n, o ≠ .done n) :
    s.burstOn e p o = s.modEng e fun g => { g with burst := 0 } := by
  cases o with
  | done n => exact absurd rfl (h n)
  | read _ | checkFail | noCard | notTaken _ | anomaly _ | cardGone | timeout | busFault | abandoned => rfl

/-- An IDENTIFY that finds no answer, or is cut off, is derived again (R21, R101). -/
theorem identify_unanswered {s : State} {e : EngineId} {op : EngineOp} {o : OpOutcome} (hdue : (s.eng e).Due op o)
    (ho : o = .busFault ∨ o = .abandoned) (hop : op.op = .identify) (hlane : (s.eng e).lane = .inService)
    (hf : (s.pos op.position).inFlight = some { engine := e, op := .identify, discard := false })
    (halloc : (s.pos op.position).pendingAlloc = none) (hlost : (s.pos op.position).cardLost = false)
    (hs : (s.pos op.position).state = .reading) (hid : (s.pos op.position).identity = none) :
    ∃ t, exec (.identifyCompletion e) s = .next t ∧ s.UpToEngines t ∧
      ((t.pos op.position).pendingOp = some .identify ∨ (t.pos op.position).inFlight.map (·.op) = some .identify) := by
  have hx := exec_completion hdue
  rw [hop] at hx
  refine ⟨_, hx, ?_⟩
  have hp := s.ended_pos_self e op o
  have hc : s.completed e op o = s.ended e op o := by
    refine State.completed_of_outcome ?_ ?_ ?_ ?_ ?_ ?_
    · simp [Position.discarding, hf]
    · unfold Engine.laneAfter
      rw [hlane]
      rcases ho with rfl | rfl <;> split <;> nofun
    · unfold State.takeOutcome
      rw [hop]
      dsimp only
      unfold State.identifyOutcome
      rw [if_pos (by rw [hp]; exact hs)]
      rcases ho with rfl | rfl <;> rfl
    · rw [hp]
      exact hlost
    · exact State.settle_of_other _ _ (by rw [hp, show Position.state _ = _ from hs]; nofun)
        (by rw [hp, show Position.state _ = _ from hs]; nofun)
    · rw [hp]
      exact halloc
  have hu := s.complete_upToGrants e op o
  rw [hc] at hu
  refine ⟨hu.upToEngines (fun q => s.ended_same e op o q) rfl, ?_⟩
  refine State.serve_keeps_op (s := ((s.completed e op o).derive op.position).burstOn e op.position o) ?_
  rw [hc, State.burstOn_of_failed (by rcases ho with rfl | rfl <;> nofun), State.modEng_pos]
  unfold State.derive
  rw [State.modPos_pos_self, hp]
  simp [Position.derive, Position.derived, hs, hid]

/-- Settles O21, by the rows of R21 in their order; an unanswered IDENTIFY is derived again. -/
theorem identifyOutcomeRows : Obligations.IdentifyOutcomeRows := by
  unfold Obligations.IdentifyOutcomeRows
  refine ⟨fun s e p b k o hdue hs hb hr => ?_, fun s e op o hdue ho hop hlane hf halloc hlost hs hid =>
    identify_unanswered hdue ho hop hlane hf halloc hlost hs hid⟩
  intro idle answers becomes
  have hp : idle.pos p = { s.pos p with inFlight := none } := s.idled_pos_self e p
  have hs' : (idle.pos p).state = .reading := by rw [hp]; exact hs
  have hb' : (idle.pos p).blockPending = false := by rw [hp]; exact hb
  have hroom : idle.queue.records.length + idle.reservations = s.queue.records.length + s.reservations :=
    s.idled_room e p
  have hother {f : Position → Position} (h1 : (f { s.pos p with inFlight := none }).state ≠ .clearing)
      (h2 : (f { s.pos p with inFlight := none }).state ≠ .recovering) :
      (idle.modPos p f).settle p = idle.modPos p f := by
    refine State.settle_of_other _ p ?_ ?_ <;> rwa [State.modPos_pos_self, hp]
  constructor
  · rintro h rfl id
    have read {f : Position → Position} (hv : idle.identifyRead p h = idle.modPos p f) :=
      hdue.identifies trivial ((State.identifyOutcome_read hs' h).trans hv)
    refine ⟨fun hk => ?_, fun hk hf => ?_, fun hk h1 h2 => ⟨fun t0 ht => ?_, fun ht hc => ?_, fun ht hc => ?_,
      fun ht hc hle => ?_⟩⟩
    · exact read (State.identifyRead_foreign hb' hk) rfl rfl (hother nofun nofun)
    · exact read (State.identifyRead_face hb' hk hf) rfl rfl (hother nofun nofun)
    · intro found
      have ht' : idle.tearEntry h.key = some t0 := ht
      refine ⟨fun hfull => ?_, fun hfree hres hd => ?_⟩
      · refine read (State.identifyRead_waits hk ⟨h1, h2⟩ (by rw [ht']; nofun) (by omega)) rfl rfl
          (State.settle_of_waiting ?_ ?_)
        · rw [State.modPos_pos_self]
          rfl
        · rw [State.modPos_pos_self]
          exact (congrArg Position.recovery hp).trans hr
      · have hfound : (idle.pos p).found h = { (s.pos p).found h with inFlight := none } := by rw [hp]; rfl
        have hv := State.identifyRead_takes hk ⟨h1, h2⟩ ht' (by omega) (by rw [hfound]; exact hd)
        have hpos := State.handing_pos_self (idle.modPos p fun x => { (x.found h) with reservation := true }) p t0
        rw [State.modPos_pos_self, hfound] at hpos
        have ⟨_, _, _, _, _, hnone, hkept⟩ := hdue
        exact hdue.answers trivial ((State.identifyOutcome_read hs' h).trans hv)
          ((congrArg Position.cardLost hpos).trans hkept)
          (State.settle_of_recovering _ p ((congrArg Position.state hpos).trans rfl)
            (.inl (Nat.ne_of_gt (Nat.lt_of_lt_of_eq hd (congrArg Position.debt hpos).symm))))
          ((congrArg Position.pendingAlloc hpos).trans hnone)
    · exact read (State.identifyRead_counter hb' hk ⟨h1, h2⟩ ht hc) rfl rfl (hother nofun nofun)
    · exact read (State.identifyRead_empty hb' hk ⟨h1, h2⟩ ht hc) rfl rfl (hother nofun nofun)
    · exact read (State.identifyRead_ready hb' hk ⟨h1, h2⟩ ht hc hle) rfl rfl (hother nofun nofun)
  · intro ho hpresent
    have hquiet : o.Quiet := by rcases ho with rfl | rfl <;> trivial
    have hpresent' : (idle.pos p).card.accepted = some .present := by rw [hp]; exact hpresent
    have misread {f : Position → Position} (hf : ({ s.pos p with inFlight := none } : Position).misread =
        f { s.pos p with inFlight := none }) :=
      hdue.identifies hquiet ((State.identifyOutcome_misread hs' hpresent' ho).trans
        (State.modPos_congr (g := f) (by rw [hp]; exact hf)))
    refine ⟨fun hretry => ?_, fun hretry => ?_⟩
    · refine misread (f := fun x => { x with retry := x.retry + 1 }) (Position.misread_again hretry) rfl rfl
        (hother ?_ ?_)
      · exact fun hc => PosState.noConfusion (hs.symm.trans hc)
      · exact fun hc => PosState.noConfusion (hs.symm.trans hc)
    · refine misread (f := fun x => { x with retry := 0 }.refusedWith .unreadable)
        (Position.misread_third (x := { s.pos p with inFlight := none }) hretry hb) rfl rfl (hother ?_ ?_)
      · exact (nofun : PosState.refused ≠ .clearing)
      · exact (nofun : PosState.refused ≠ .recovering)

end Sys2Proof.Machine
end

section
/-!
PROOFS. Units counted, written off and passed at a position that takes an outcome; a VERIFY that settles doubt, and a
BURN at a position in METERING (R73 to R78, R117 to R120).
-/

namespace Sys2Proof.Machine

/-! ### One position and the totals -/

/-- A state in which one position and the accounting have moved. -/
def State.moved (s : State) (p : PosId) (f : Position → Position) (a : Accounting) : State := { s.modPos p f with acct := a }

section
variable (s : State) (p : PosId) (f g : Position → Position) (a : Accounting)

theorem State.moved_pos_self : (s.moved p f a).pos p = f (s.pos p) := s.modPos_pos_self p f

theorem State.moved_pos_ne {q : PosId} (h : q ≠ p) : (s.moved p f a).pos q = s.pos q := s.modPos_pos_ne h f

theorem State.modPos_moved : (s.moved p f a).modPos p g = s.moved p (fun x => g (f x)) a :=
  congrArg (fun u : State => { u with acct := a }) (s.modPos_modPos p f g)

theorem State.moved_congr {s : State} {p : PosId} {f g : Position → Position} (h : f (s.pos p) = g (s.pos p)) (a : Accounting) :
    s.moved p f a = s.moved p g a :=
  congrArg (fun u : State => { u with acct := a }) (State.modPos_congr h)

theorem State.modPos_eq_moved : s.modPos p f = s.moved p f s.acct := rfl

theorem State.reportBurned_moved (n : Nat) : (s.moved p f a).reportBurned n = s.moved p f (a.plusBurned n) := rfl

theorem State.reportWrittenOff_moved (n : Nat) : (s.moved p f a).reportWrittenOff n = s.moved p f (a.plusWrittenOff n) := rfl

theorem State.endCall_moved (why : EndCause) :
    (s.moved p f a).endCall p why = s.moved p (fun x => (f x).inClearing s.settings.clearWait s.link.stamp why) a := by
  rw [State.endCall_eq, State.modPos_moved]
  rfl

theorem State.unitBurned_moved : (s.moved p f a).unitBurned p = s.moved p (fun x => (f x).unitBurned) (a.plusBurned 1) := by
  rw [State.unitBurned_def, State.modPos_moved, State.reportBurned_moved]

theorem State.unitDone_moved :
    (s.moved p f a).unitDone p =
      s.moved p (fun x => { (f x).unitBurned with remaining := (f x).unitBurned.remaining - 1 }) (a.plusBurned 1) := by
  unfold State.unitDone
  rw [State.unitBurned_moved, State.modPos_moved]

theorem State.debtLost_moved :
    (s.moved p f a).debtLost p = s.moved p (fun x => (f x).debtLost) (a.plusWrittenOff (f (s.pos p)).debt) := by
  unfold State.debtLost
  rw [State.modPos_moved, State.reportWrittenOff_moved, State.moved_pos_self]

/-- A CARD_FAULT in a metered call writes the debt off and ends the call (R78). -/
theorem State.cardFault_moved {d : Nat} (hd : (f (s.pos p)).debt = d)
    (h : (f (s.pos p)).state = .metering ∨ (f (s.pos p)).state = .lastUnit) :
    (s.moved p f a).cardFault p =
      s.moved p (fun x => (f x).debtLost.inClearing s.settings.clearWait s.link.stamp .cardFault)
        (a.plusWrittenOff d) := by
  subst hd
  rw [State.cardFault_def, State.moved_pos_self]
  rcases h with h | h <;> rw [h] <;> dsimp only <;> rw [State.debtLost_moved, State.endCall_moved]

/-- A counter lower by more than one: one unit burned, then the fault or the last-unit test (R76, R77). -/
theorem State.unitsLost_moved (counter : Nat) :
    (s.moved p f a).unitsLost p counter =
      if counter < (f (s.pos p)).unitBurned.debt then
        (s.moved p (fun x => { (f x).unitBurned with remaining := counter }) (a.plusBurned 1)).cardFault p
      else s.moved p (fun x => ({ (f x).unitBurned with remaining := counter } : Position).lastUnitTest)
        (a.plusBurned 1) := by
  unfold State.unitsLost
  dsimp only
  rw [State.unitBurned_moved, State.modPos_moved, State.modPos_moved, State.moved_pos_self]

end

/-! ### Units counted in a call -/

theorem Position.mapUnits_of_call {x : Position} {c : Call} (h : x.call = some c) (f : Units → Units) :
    x.mapUnits f = { x with call := some { c with units := f c.units } } := by
  unfold Position.mapUnits
  rw [h]

theorem Position.unitBurned_of_call {x : Position} {c : Call} (h : x.call = some c) :
    x.unitBurned =
      { x with
        debt := x.debt - 1, retry := 0
        call := some { c with units := { c.units with burned := c.units.burned + 1 } } } := by
  unfold Position.unitBurned
  rw [Position.mapUnits_of_call h]

theorem Position.debtLost_of_call {x : Position} {c : Call} (h : x.call = some c) :
    x.debtLost =
      { x with
        debt := 0, doubt := none, faulty := true, retry := 0, cardLost := false
        call := some { c with units := { c.units with writtenOff := c.units.writtenOff + x.debt } } } := by
  unfold Position.debtLost
  rw [Position.mapUnits_of_call h]

/-- A debt written off at a position without doubt whose card has not been lost. -/
theorem Position.debtLost_undoubted {x : Position} {c : Call} (h : x.call = some c) (hd : x.doubt = none)
    (hl : x.cardLost = false) :
    x.debtLost =
      { x with
        debt := 0, retry := 0, faulty := true
        call := some { c with units := { c.units with writtenOff := c.units.writtenOff + x.debt } } } := by
  rw [Position.debtLost_of_call h]
  cases x
  subst hd hl
  rfl

theorem Position.markAnomaly_of_call {x : Position} {c : Call} (h : x.call = some c) :
    x.markAnomaly = { x with call := some { c with units := { c.units with anomaly := true } } } :=
  Position.mapUnits_of_call h _

/-! ### The passing of debt -/

theorem Position.mapUnits_place (f : Units → Units) (x : Position) :
    (x.mapUnits f).state = x.state ∧ (x.mapUnits f).reservation = x.reservation ∧
      (x.mapUnits f).forcedClear = x.forcedClear ∧ (x.mapUnits f).pendingAlloc = x.pendingAlloc ∧
      (x.mapUnits f).inFlight = x.inFlight := by
  unfold Position.mapUnits
  split <;> exact ⟨rfl, rfl, rfl, rfl, rfl⟩

/-- A creation request for the key a position holds leaves that position, out of READY. -/
theorem State.createEntry_pos_own {s : State} {p : PosId} {t : TearEntry} (hk : (s.pos p).key = some t.key)
    (hr : (s.pos p).state ≠ .ready) : (s.createEntry t).pos p = s.pos p := by
  have hnote (u : State) (hu : u.pos p = s.pos p) : (u.handNotices t.key).pos p = s.pos p := by
    unfold State.handNotices
    rw [State.mapPos_pos, hu]
    simp [hr]
  refine hnote _ ?_
  cases hn : s.tearEntry t.key with
  | some old => rfl
  | none =>
    dsimp only
    cases he : s.tear.entries with
    | nil => rfl
    | cons oldest rest =>
      dsimp only
      have hother : oldest.key ≠ t.key := fun hc =>
        (s.tearEntry_eq_none_iff t.key).mp hn (hc ▸ List.mem_map_of_mem (he ▸ List.mem_cons_self))
      have hevict : (s.evict oldest).pos p = s.pos p := by
        rw [State.evict_pos, Position.released, if_neg]
        rintro ⟨-, -, hkey⟩
        exact hother (Option.some.inj (hkey.symm.trans hk))
      split
      · rfl
      · exact hevict

/-- A position out of READY, after its debt has been passed (R117). -/
theorem State.passDebt_pos {s : State} {p : PosId} (hr : (s.pos p).state ≠ .ready) :
    (s.passDebt p).pos p = (s.pos p).passed := by
  unfold State.passDebt
  dsimp only
  cases hi : (s.pos p).identity with
  | none => rw [State.modPos_pos_self, Position.passed, if_pos (.inl hi)]
  | some id =>
    dsimp only
    split
    · next hn =>
      rw [State.modPos_pos_self, Position.passed, if_pos (.inr (by simpa using hn))]
    · next hn =>
      have hpass : (s.pos p).passed = _ := if_neg (by
        rintro (hc | hc)
        · exact nomatch hi.symm.trans hc
        · exact hn (by simpa using hc))
      have hrole := (s.pos p).passed_role
      rw [State.modPos_congr (s := s) (p := p) (g := fun _ => (s.pos p).passed) hpass.symm, State.createEntry_pos_own,
        State.modPos_pos_self]
      · rw [State.modPos_pos_self, Position.key, hrole.identity, hi]
        rfl
      · rw [State.modPos_pos_self, hrole.state]
        exact hr

theorem Position.passed_place (x : Position) :
    x.passed.state = x.state ∧ x.passed.reservation = x.reservation ∧ x.passed.forcedClear = x.forcedClear ∧
      x.passed.pendingAlloc = x.pendingAlloc ∧ x.passed.inFlight = x.inFlight ∧ x.passed.cardLost = false := by
  unfold Position.passed
  split
  · exact ⟨rfl, rfl, rfl, rfl, rfl, rfl⟩
  · obtain ⟨h1, h2, h3, h4, h5⟩ := x.mapUnits_place fun u =>
      { u with owedOut := u.owedOut + (x.debt - if x.doubt.isSome then 1 else 0)
               doubtOut := u.doubtOut + if x.doubt.isSome then 1 else 0 }
    exact ⟨h1, h2, h3, h4, h5, rfl⟩

/-! ### A VERIFY -/

section
variable {s : State} {p : PosId} {before : Nat} {h : Header}

theorem State.verifyOutcome_read (hd : (s.pos p).doubt = some before) :
    s.verifyOutcome p (.read h) = s.resolveVerify p before h := by
  unfold State.verifyOutcome
  dsimp only
  rw [hd]

theorem State.resolveVerify_other (hk : (s.pos p).key ≠ some h.key) : s.resolveVerify p before h = s.otherCard p := by
  unfold State.resolveVerify
  exact if_pos hk

variable (hk : (s.pos p).key = some h.key)
include hk

theorem State.resolveVerify_done (hc : h.counter + 1 = before) :
    s.resolveVerify p before h = (s.moved p (fun x => { x with doubt := none }) s.acct).unitDone p := by
  unfold State.resolveVerify
  rw [if_neg (fun hn => hn hk)]
  exact if_pos hc

theorem State.resolveVerify_same (hc : h.counter = before) :
    s.resolveVerify p before h = s.moved p (fun x => { x with doubt := none }) s.acct := by
  unfold State.resolveVerify
  rw [if_neg (fun hn => hn hk)]
  dsimp only
  rw [if_neg (by omega), if_pos hc]
  rfl

theorem State.resolveVerify_lower (hc : h.counter + 1 < before) :
    s.resolveVerify p before h =
      (s.moved p (fun x => ({ x with doubt := none } : Position).markAnomaly) s.acct).unitsLost p h.counter := by
  unfold State.resolveVerify
  rw [if_neg (fun hn => hn hk)]
  dsimp only
  rw [if_neg (by omega), if_neg (by omega), if_pos hc, State.modPos_modPos]
  rfl

theorem State.resolveVerify_higher (hc : before < h.counter) :
    s.resolveVerify p before h =
      (s.moved p (fun x => ({ x with doubt := none } : Position).markAnomaly) s.acct).cardFault p := by
  unfold State.resolveVerify
  rw [if_neg (fun hn => hn hk)]
  dsimp only
  rw [if_neg (by omega), if_neg (by omega), if_neg (by omega), State.modPos_modPos]
  rfl

end

/-! ### A VERIFY in METERING -/

/-- A position that an event leaves as it is: out of CLEARING and RECOVERING, or in a CLEARING that waits for its line. -/
def Position.Stays (x : Position) : Prop :=
  (x.state ≠ .clearing ∧ x.state ≠ .recovering) ∨ (x.state = .clearing ∧ x.forcedClear = true)

theorem State.settle_of_stays {s : State} {p : PosId} (h : (s.pos p).Stays) : s.settle p = s := by
  rcases h with ⟨hc, hr⟩ | ⟨hc, hf⟩
  · exact s.settle_of_other p hc hr
  · exact s.settle_of_clearing p hc (.inl hf)

theorem Position.Stays.of_metering {x : Position} (h : x.state = .metering) : x.Stays :=
  .inl ⟨by rw [h]; nofun, by rw [h]; nofun⟩

section
variable {s : State} {e : EngineId} {p : PosId} {b : Nat} {k : Option CardKey} {h : Header} {before : Nat}

/-- A VERIFY READ whose outcome moves the position and the totals. -/
theorem State.DueAt.verifies (hdue : s.DueAt e p .verify b k (.read h)) (hd : (s.pos p).doubt = some before)
    {f g : Position → Position} {a : Accounting}
    (hv : (s.idled e p).resolveVerify p before h = (s.idled e p).moved p f a)
    (hfg : f ((s.idled e p).pos p) = g ((s.idled e p).pos p))
    (hlost : (g ((s.idled e p).pos p)).cardLost = ((s.idled e p).pos p).cardLost)
    (halloc : (g ((s.idled e p).pos p)).pendingAlloc = ((s.idled e p).pos p).pendingAlloc)
    (hstay : (g ((s.idled e p).pos p)).Stays) :
    ∃ t, exec (.verifyCompletion e) s = .next t ∧ ((s.idled e p).moved p g a).UpToGrants t := by
  have hp := s.idled_pos_self e p
  have hd' : ((s.idled e p).pos p).doubt = some before := (congrArg Position.doubt hp).trans hd
  have ⟨_, _, _, _, _, hnone, hkept⟩ := hdue
  refine hdue.answers trivial
    ((State.verifyOutcome_read hd').trans (hv.trans (State.moved_congr hfg a))) ?_ (State.settle_of_stays ?_) ?_
  · rw [State.moved_pos_self, hlost]
    exact (congrArg Position.cardLost hp).trans hkept
  · rwa [State.moved_pos_self]
  · rw [State.moved_pos_self, halloc]
    exact (congrArg Position.pendingAlloc hp).trans hnone

end

section
variable {x : Position} {c : Call} (hc : x.call = some c)
include hc

/-- One unit found burned: debt and remaining lower, the doubt gone. -/
theorem Position.unitBurned_undoubted :
    ({ ({ x with doubt := none } : Position).unitBurned with
        remaining := ({ x with doubt := none } : Position).unitBurned.remaining - 1 } : Position) =
      { x with
        doubt := none, debt := x.debt - 1, remaining := x.remaining - 1, retry := 0
        call := some { c with units := { c.units with burned := c.units.burned + 1 } } } := by
  rw [Position.unitBurned_of_call (x := { x with doubt := none }) hc]

theorem Position.unitBurned_anomalous (m : Nat) :
    ({ ({ x with doubt := none } : Position).markAnomaly.unitBurned with remaining := m } : Position) =
      { x with
        doubt := none, debt := x.debt - 1, remaining := m, retry := 0
        call := some { c with units := { c.units with burned := c.units.burned + 1, anomaly := true } } } := by
  rw [Position.markAnomaly_of_call (x := { x with doubt := none }) hc, Position.unitBurned_of_call rfl]

end

/-- Another card found in METERING, taken as a withdrawal of the held one (R77, R117). -/
theorem State.otherCard_metering {s : State} {p : PosId} (hs : (s.pos p).state = .metering)
    (hlost : (s.pos p).cardLost = false) (hf : (s.pos p).inFlight = none) :
    s.otherCard p = State.passDebt
      { (s.modPos p fun x =>
          ({ x with cardLeft := true } : Position).inClearing s.settings.clearWait s.link.stamp .cardWithdrawn) with
        acct := { s.acct with global :=
          { s.acct.global with withdrawals := min 65535 (s.acct.global.withdrawals + 1) } } } p := by
  unfold State.otherCard
  rw [if_neg (by rw [hlost]; nofun)]
  unfold State.cardLeaves
  rw [hs]
  dsimp only
  rw [State.endCall_eq, State.modPos_modPos]
  unfold State.passOrLose
  rw [State.modPos_pos_self, if_neg]
  · rfl
  · intro hn
    have hn' : (s.pos p).inFlight.isSome = true := hn
    rw [hf] at hn'
    cases hn'

theorem State.idled_key {s : State} {p : PosId} {id : CardId} (h : (s.pos p).identity = some id) (e : EngineId) :
    ((s.idled e p).pos p).key = some id.key := by
  rw [State.idled_pos_self]
  exact congrArg (Option.map (·.key)) h

section
variable {s : State} {e : EngineId} {p : PosId} {b : Nat} {k : Option CardKey} {h : Header} {id : CardId} {before : Nat}
  (hdue : s.DueAt e p .verify b k (.read h)) (hs : (s.pos p).state = .metering)
  (hid : (s.pos p).identity = some id) (hd : (s.pos p).doubt = some before)
  (hline : (s.pos p).line.accepted ≠ some .idle)
include hdue hs hid hd hline

theorem verify_finds_other (hk : h.key ≠ id.key) :
    ∃ t, exec (.verifyCompletion e) s = .next t ∧
      (State.passDebt { ((s.idled e p).modPos p fun x =>
          ({ x with cardLeft := true } : Position).inClearing s.settings.clearWait s.link.stamp .cardWithdrawn) with
        acct := { s.acct with global :=
          { s.acct.global with withdrawals := min 65535 (s.acct.global.withdrawals + 1) } } } p).UpToGrants t := by
  have hp := s.idled_pos_self e p
  have ⟨_, _, _, _, _, hnone, hkept⟩ := hdue
  have hv : (s.idled e p).verifyOutcome p (.read h) = _ :=
    (State.verifyOutcome_read (by rw [hp]; exact hd)).trans <|
      (State.resolveVerify_other (by rw [State.idled_key hid]; exact fun hc => hk (Option.some.inj hc).symm)).trans <|
        State.otherCard_metering (by rw [hp]; exact hs) (by rw [hp]; exact hkept) (by rw [hp])
  have hclear (a : Accounting) : ((s.idled e p).moved p (fun x =>
      ({ x with cardLeft := true } : Position).inClearing s.settings.clearWait s.link.stamp .cardWithdrawn) a).pos p =
      ({ s.pos p with inFlight := none, cardLeft := true } : Position).inClearing s.settings.clearWait s.link.stamp
        .cardWithdrawn := by
    rw [State.moved_pos_self, hp]
  have hpass := State.passDebt_pos (s := (s.idled e p).moved p (fun x =>
      ({ x with cardLeft := true } : Position).inClearing s.settings.clearWait s.link.stamp .cardWithdrawn)
    { s.acct with global := { s.acct.global with withdrawals := min 65535 (s.acct.global.withdrawals + 1) } }) (p := p)
    (by rw [hclear]; exact (nofun : PosState.clearing ≠ .ready))
  rw [hclear] at hpass
  obtain ⟨hstate, -, hforced, halloc, -, hlost⟩ := Position.passed_place
    (({ s.pos p with inFlight := none, cardLeft := true } : Position).inClearing s.settings.clearWait s.link.stamp
      .cardWithdrawn)
  refine hdue.answers trivial hv ((congrArg Position.cardLost hpass).trans hlost)
    (State.settle_of_stays ?_) ((congrArg Position.pendingAlloc hpass).trans (halloc.trans hnone))
  exact .inr ⟨(congrArg Position.state hpass).trans hstate,
    (congrArg Position.forcedClear hpass).trans (hforced.trans (decide_eq_true hline))⟩

end

/-- Settles O22: one lemma of the model for each answer of a VERIFY, at the call that holds the card. -/
theorem verifySettlesDoubt : Obligations.VerifySettlesDoubt := by
  unfold Obligations.VerifySettlesDoubt
  intro s e p b k h id c before hdue hs hid hd hc hline idle answers becomes faulted burned
  have hp : idle.pos p = { s.pos p with inFlight := none } := s.idled_pos_self e p
  have hc' : (idle.pos p).call = some c := (congrArg Position.call hp).trans hc
  have hs' : (idle.pos p).state = .metering := (congrArg Position.state hp).trans hs
  have hline' : (idle.pos p).line.accepted ≠ some .idle := by rw [hp]; exact hline
  have ⟨_, _, _, _, _, _, hkept⟩ := hdue
  have hlost' : (idle.pos p).cardLost = false := (congrArg Position.cardLost hp).trans hkept
  have hdebt : (idle.pos p).debt = (s.pos p).debt := (congrArg Position.debt hp).trans rfl
  have hkey (hk : h.key = id.key) : (idle.pos p).key = some h.key := hk ▸ State.idled_key hid e
  refine ⟨fun hk hn => ?_, fun hk hn => ?_, fun hk hn => ?_, fun hk hn => ?_,
    fun hk => verify_finds_other hdue hs hid hd hline hk⟩
  · refine hdue.verifies hd ((State.resolveVerify_done (hkey hk) hn).trans (State.unitDone_moved ..))
      (g := fun x => { x with
        doubt := none, debt := x.debt - 1, remaining := x.remaining - 1, retry := 0, call := some { c with units := burned } })
      (Position.unitBurned_undoubted hc') rfl rfl (.of_metering hs')
  · exact hdue.verifies hd (State.resolveVerify_same (hkey hk) hn) rfl rfl rfl (.of_metering hs')
  · intro lower
    have hlower : _ = lower { idle.pos p with doubt := none } := Position.unitBurned_anomalous hc' h.counter
    have hb : ({ idle.pos p with doubt := none } : Position).markAnomaly.unitBurned.debt = (s.pos p).debt - 1 :=
      (congrArg Position.debt hlower).trans (congrArg (· - 1) hdebt)
    have hv := (State.resolveVerify_lower (hkey hk) hn).trans (State.unitsLost_moved ..)
    rw [hb] at hv
    have htest (kr : InUseTariff) (hkr : c.tariff = some kr) :
        (lower { idle.pos p with doubt := none }).lastUnitTest =
          if h.counter < (idle.pos p).debt - 1 + kr.step then (lower { idle.pos p with doubt := none }).enterLastUnit
          else lower { idle.pos p with doubt := none } :=
      Position.lastUnitTest_of_step (x := lower { idle.pos p with doubt := none }) (n := kr.step)
        (congrArg (Option.map fun y : InUseTariff => y.step) hkr) hs'
    refine ⟨fun hlt => ?_, fun kr hkr hle hlt => ?_, fun kr hkr hle => ?_⟩
    · rw [if_pos hlt, State.cardFault_moved (hd := hb) (h := .inl ((congrArg Position.state hlower).trans hs'))] at hv
      refine hdue.verifies hd hv
        (g := fun x => faulted burned (lower { x with doubt := none })) ?_ rfl rfl
        (.inr ⟨rfl, decide_eq_true hline'⟩)
      have hlost := Position.debtLost_undoubted (x := lower { idle.pos p with doubt := none }) rfl rfl hlost'
      exact congrArg (·.inClearing s.settings.clearWait s.link.stamp .cardFault)
        ((congrArg Position.debtLost hlower).trans hlost)
    · rw [if_neg (by omega)] at hv
      exact hdue.verifies hd hv
        (((congrArg Position.lastUnitTest hlower).trans (htest kr hkr)).trans (if_pos (by rwa [hdebt]))) rfl rfl
        (.inl ⟨nofun, nofun⟩)
    · rw [if_neg (by omega)] at hv
      exact hdue.verifies hd hv
        (((congrArg Position.lastUnitTest hlower).trans (htest kr hkr)).trans (if_neg (by rw [hdebt]; omega))) rfl rfl
        (.of_metering hs')
  · have hanom := Position.markAnomaly_of_call (x := { idle.pos p with doubt := none }) hc'
    have hv := (State.resolveVerify_higher (hkey hk) hn).trans (State.cardFault_moved
      (hd := (congrArg Position.debt hanom).trans hdebt) (h := .inl ((congrArg Position.state hanom).trans hs')) ..)
    refine hdue.verifies hd hv (g := fun x => faulted c.units { x with doubt := none }) ?_ rfl rfl
      (.inr ⟨rfl, decide_eq_true hline'⟩)
    exact congrArg (·.inClearing s.settings.clearWait s.link.stamp .cardFault)
      ((congrArg Position.debtLost hanom).trans (Position.debtLost_undoubted rfl rfl hlost'))

end Sys2Proof.Machine
end

section
/-!
PROOFS. A BURN that ends without a unit: at a position in METERING, and at one whose card has left it (R74 to R78, R119).
-/

namespace Sys2Proof.Machine

/-! ### Outcomes of a BURN that move the position and the totals -/

section
variable (s : State) (p : PosId) (f : Position → Position) (a : Accounting)

theorem State.moved_id : s.moved p id s.acct = s := by
  refine State.ext_views (fun q => ?_) (fun _ => rfl) rfl rfl rfl rfl rfl rfl rfl rfl
  by_cases hq : q = p
  · subst hq
    rw [State.moved_pos_self]
    rfl
  · rw [State.moved_pos_ne _ _ _ _ hq]

theorem State.strike_moved :
    (s.moved p f a).strike p =
      if 3 ≤ (f (s.pos p)).retry + 1 then (s.moved p f a).cardFault p
      else s.moved p (fun x => { (f x) with retry := (f x).retry + 1 }) a := by
  unfold State.strike
  rw [State.moved_pos_self, State.modPos_moved]

end

section
variable {x : Position} {c : Call} (hc : x.call = some c)
include hc

/-- A debt written off at a position whose card has not been lost. -/
theorem Position.debtLost_kept (hl : x.cardLost = false) :
    x.debtLost =
      { x with
        debt := 0, doubt := none, faulty := true, retry := 0
        call := some { c with units := { c.units with writtenOff := c.units.writtenOff + x.debt } } } := by
  rw [Position.debtLost_of_call hc]
  cases x
  subst hl
  rfl

theorem Position.burned_anomalous (m : Nat) :
    ({ x.markAnomaly.unitBurned with remaining := m } : Position) =
      { x with
        debt := x.debt - 1, remaining := m, retry := 0
        call := some { c with units := { c.units with burned := c.units.burned + 1, anomaly := true } } } := by
  rw [Position.markAnomaly_of_call hc, Position.unitBurned_of_call rfl]

end

section
variable {s : State} {e : EngineId} {p : PosId} {b : Nat} {k : Option CardKey} {o : OpOutcome}

/-- What the completion of a BURN makes of its position alone. -/
def State.BurnBecomes (s : State) (e : EngineId) (p : PosId) (f : Position → Position) : Prop :=
  ∃ t, exec (.burnCompletion e) s = .next t ∧ Position.SameButOp (f { s.pos p with inFlight := none }) (t.pos p) ∧
    (∀ q, q ≠ p → (s.pos q).SameButOp (t.pos q)) ∧ t.tear = s.tear ∧ t.queue = s.queue

/-- A BURN whose outcome moves the position and the totals. -/
theorem State.DueAt.burns (hdue : s.DueAt e p .burn b k o) {f g : Position → Position} {a : Accounting} {u : State}
    (hu : u = s.ended e (.over p .burn b k o) o) (hv : u.burnOutcome p b o = u.moved p f a)
    (hfg : f (u.pos p) = g (u.pos p)) (hlost : (g (u.pos p)).cardLost = (u.pos p).cardLost)
    (halloc : (g (u.pos p)).pendingAlloc = (u.pos p).pendingAlloc) (hstay : (g (u.pos p)).Stays) : s.BurnBecomes e p g := by
  have hp : u.pos p = { s.pos p with inFlight := none } := by
    rw [hu]
    exact s.ended_pos_self e (.over p .burn b k o) o
  have hg : (u.moved p g a).pos p = g (u.pos p) := u.moved_pos_self p g a
  have hother {q : PosId} (hq : q ≠ p) : (u.moved p g a).pos q = s.pos q := by
    rw [State.moved_pos_ne _ _ _ _ hq, hu, State.ended_pos]
    exact if_neg hq
  have ⟨_, _, _, _, _, hnone, hkept⟩ := hdue
  have hc : s.completed e (.over p .burn b k o) o = u.moved p g a := by
    refine State.completed_of_outcome hdue.discarding hdue.laneAfter ?_ ?_ (State.settle_of_stays ?_) ?_
    · rw [← hu]
      exact hv.trans (State.moved_congr hfg a)
    · exact (congrArg Position.cardLost hg).trans (hlost.trans ((congrArg Position.cardLost hp).trans hkept))
    · exact hg ▸ hstay
    · exact (congrArg Position.pendingAlloc hg).trans (halloc.trans ((congrArg Position.pendingAlloc hp).trans hnone))
  obtain ⟨hpos, -, -, hrest⟩ := hc ▸ s.complete_upToGrants e (.over p .burn b k o) o
  refine ⟨_, exec_completion hdue.due, ?_, fun q hq => ?_, ?_, ?_⟩
  · have := hpos p
    rwa [hg, hp] at this
  · have := hpos q
    rwa [hother hq] at this
  · rw [hrest, hu]
    rfl
  · rw [hrest, hu]
    rfl

end

/-- The rows of a BURN without a unit in METERING (R75, R76, R78). -/
theorem burnWithoutUnit_metering {s : State} {e : EngineId} {p : PosId} {b n : Nat} {k : Option CardKey} {c : Call}
    {o : OpOutcome} (hdue : s.DueAt e p .burn b k o) (hs : (s.pos p).state = .metering) (hc : (s.pos p).call = some c)
    (hline : (s.pos p).line.accepted ≠ some .idle) :
    (o = .cardGone ∨ o = .busFault → s.BurnBecomes e p fun x => { x with doubt := some x.remaining }) ∧
    (∀ m k, o = .anomaly m → m + 1 < b → c.tariff = some k → (s.pos p).debt - 1 + k.step ≤ m →
      s.BurnBecomes e p fun x =>
        { x with
          debt := x.debt - 1, remaining := m, retry := 0
          call := some { c with units := { c.units with burned := c.units.burned + 1, anomaly := true } } }) ∧
    (∀ m, o = .anomaly m → b < m →
      s.BurnBecomes e p fun x =>
        ({ x with
            debt := 0, doubt := none, faulty := true, retry := 0
            call := some
              { c with units :=
                { c.units with writtenOff := c.units.writtenOff + x.debt, anomaly := true } } } : Position).inClearing
          s.settings.clearWait s.link.stamp .cardFault) ∧
    (o = .timeout → (s.pos p).retry < 2 → s.BurnBecomes e p fun x => { x with doubt := some x.remaining, retry := x.retry + 1 }) ∧
    (o = .notTaken n → (s.pos p).retry < 2 → s.BurnBecomes e p fun x => { x with retry := x.retry + 1 }) ∧
    (o = .timeout ∨ o = .notTaken n → (s.pos p).retry = 2 →
      s.BurnBecomes e p fun x =>
        ({ x with
            debt := 0, doubt := none, faulty := true, retry := 0
            call := some { c with units := { c.units with writtenOff := c.units.writtenOff + x.debt } } } :
          Position).inClearing s.settings.clearWait s.link.stamp .cardFault) := by
  obtain ⟨u, hu⟩ : ∃ u, u = s.ended e (.over p .burn b k o) o := ⟨_, rfl⟩
  have hp : u.pos p = { s.pos p with inFlight := none } := by
    rw [hu]
    exact s.ended_pos_self e (.over p .burn b k o) o
  have ⟨_, _, _, _, _, _, hkept⟩ := hdue
  have hc' : (u.pos p).call = some c := (congrArg Position.call hp).trans hc
  have hs' : (u.pos p).state = .metering := (congrArg Position.state hp).trans hs
  have hline' : (u.pos p).line.accepted ≠ some .idle := by rw [hp]; exact hline
  have hlost' : (u.pos p).cardLost = false := (congrArg Position.cardLost hp).trans hkept
  have hdebt : (u.pos p).debt = (s.pos p).debt := (congrArg Position.debt hp).trans rfl
  have hretry : (u.pos p).retry = (s.pos p).retry := (congrArg Position.retry hp).trans rfl
  have hset : u.settings = s.settings := by rw [hu]; rfl
  have hlink : u.link = s.link := by rw [hu]; rfl
  have hanom := Position.markAnomaly_of_call hc'
  rw [← hset, ← hlink]
  refine ⟨fun ho => ?_, fun m kr ho hm hkr hle => ?_, fun m ho hm => ?_, fun ho hr => ?_, fun ho hr => ?_,
    fun ho hr => ?_⟩
  · refine hdue.burns hu (f := Position.setDoubt) (a := u.acct) ?_ rfl rfl rfl (.of_metering hs')
    rcases ho with rfl | rfl <;> rfl
  · have hlower := Position.burned_anomalous hc' m
    have hv : u.burnOutcome p b o = (u.moved p (·.markAnomaly) u.acct).unitsLost p m := by
      rw [ho]
      exact if_pos hm
    rw [State.unitsLost_moved, if_neg] at hv
    · refine hdue.burns hu hv ((congrArg Position.lastUnitTest hlower).trans ?_) rfl rfl (.of_metering hs')
      rw [Position.lastUnitTest_of_step (n := kr.step), if_neg]
      · exact Nat.not_lt.mpr (by rwa [hdebt])
      · exact congrArg (Option.map fun y : InUseTariff => y.step) hkr
      · exact hs'
    · exact fun hlt => absurd (Nat.lt_of_lt_of_eq hlt ((congrArg Position.debt hlower).trans (congrArg (· - 1) hdebt)))
        (by omega)
  · have hv : u.burnOutcome p b o = (u.moved p (·.markAnomaly) u.acct).cardFault p := by
      rw [ho]
      exact if_neg (by omega)
    rw [State.cardFault_moved (hd := rfl) (h := .inl ((congrArg Position.state hanom).trans hs'))] at hv
    refine hdue.burns hu hv ?_ rfl rfl (.inr ⟨rfl, decide_eq_true hline'⟩)
    exact congrArg (·.inClearing u.settings.clearWait u.link.stamp .cardFault)
      ((congrArg Position.debtLost hanom).trans (Position.debtLost_kept rfl hlost'))
  · have hv : u.burnOutcome p b o = (u.moved p (·.setDoubt) u.acct).strike p := by
      rw [ho]
      rfl
    rw [State.strike_moved, if_neg (by change ¬ 3 ≤ (u.pos p).retry + 1; omega)] at hv
    exact hdue.burns hu hv rfl rfl rfl (.of_metering hs')
  · have hv : u.burnOutcome p b o = (u.moved p id u.acct).strike p := by
      rw [ho]
      exact congrArg (fun w : State => w.strike p) (u.moved_id p).symm
    rw [State.strike_moved, if_neg (by change ¬ 3 ≤ (u.pos p).retry + 1; omega)] at hv
    exact hdue.burns hu hv rfl rfl rfl (.of_metering hs')
  · obtain ⟨d, hv⟩ : ∃ d : Position → Option Nat, u.burnOutcome p b o =
        (u.moved p (fun x => { x with doubt := d x }) u.acct).strike p := by
      rcases ho with rfl | rfl
      · exact ⟨fun x => some x.remaining, rfl⟩
      · exact ⟨Position.doubt, congrArg (fun w : State => w.strike p) (u.moved_id p).symm⟩
    rw [State.strike_moved, if_pos (by change 3 ≤ (u.pos p).retry + 1; omega),
      State.cardFault_moved (hd := rfl) (h := .inl hs')] at hv
    refine hdue.burns hu hv ?_ rfl rfl (.inr ⟨rfl, decide_eq_true hline'⟩)
    exact congrArg (·.inClearing u.settings.clearWait u.link.stamp .cardFault)
      (Position.debtLost_kept (x := { u.pos p with doubt := d (u.pos p) }) hc' hlost')

end Sys2Proof.Machine
end

section
/-!
PROOFS. An operation that ends at a position whose card has left: its outcome is taken, what is owed is passed or written
off, and a finished clearing or a recovery writes its record (R35, R37, R117, R119).
-/

namespace Sys2Proof.Machine

/-! ### The engines put aside -/

/-- A state with the engines, and their counts, of another. -/
def State.withBench (s b : State) : State := { s with engines := b.engines, acct := { s.acct with engines := b.acct.engines } }

section
variable (s b : State) (p : PosId)

theorem State.withBench_pos : (s.withBench b).pos p = s.pos p := rfl

theorem State.withBench_modPos (f : Position → Position) : (s.withBench b).modPos p f = (s.modPos p f).withBench b := rfl

theorem State.withBench_mapPos (f : PosId → Position → Position) : (s.withBench b).mapPos f = (s.mapPos f).withBench b := by
  unfold State.mapPos
  rfl

theorem State.withBench_recorded (r : CallRecord) : (s.withBench b).recorded r = (s.recorded r).withBench b := rfl

theorem State.withBench_modTear (f : TearList → TearList) : (s.withBench b).modTear f = (s.modTear f).withBench b := rfl

theorem State.withBench_modLink (f : Link → Link) : (s.withBench b).modLink f = (s.modLink f).withBench b := rfl

theorem State.withBench_modGlobal (f : GlobalCounts → GlobalCounts) :
    (s.withBench b).modGlobal f = (s.modGlobal f).withBench b := rfl

theorem State.withBench_reportWrittenOff (n : Nat) :
    (s.withBench b).reportWrittenOff n = (s.reportWrittenOff n).withBench b := rfl

theorem State.withBench_releaseWaiters (k : CardKey) :
    (s.withBench b).releaseWaiters k = (s.releaseWaiters k).withBench b := by
  unfold State.releaseWaiters
  exact s.withBench_mapPos b _

theorem State.withBench_handNotices (k : CardKey) : (s.withBench b).handNotices k = (s.handNotices k).withBench b := by
  unfold State.handNotices
  exact s.withBench_mapPos b _

theorem State.withBench_appendEntry (t : TearEntry) : (s.withBench b).appendEntry t = (s.appendEntry t).withBench b := rfl

theorem State.withBench_mergeEntry (old new : TearEntry) :
    (s.withBench b).mergeEntry old new = (s.mergeEntry old new).withBench b := rfl

theorem State.withBench_tear : (s.withBench b).tear = s.tear := rfl

theorem State.withBench_tearEntry (k : CardKey) : (s.withBench b).tearEntry k = s.tearEntry k := rfl

theorem State.withBench_link : (s.withBench b).link = s.link := rfl

theorem State.withBench_evict (t : TearEntry) : (s.withBench b).evict t = (s.evict t).withBench b := by
  unfold State.evict
  dsimp only
  rw [State.withBench_link, State.withBench_modTear, State.withBench_reportWrittenOff, State.withBench_modGlobal,
    State.withBench_modLink, State.withBench_releaseWaiters]

theorem State.withBench_createEntry (t : TearEntry) : (s.withBench b).createEntry t = (s.createEntry t).withBench b := by
  unfold State.createEntry
  rw [State.withBench_tearEntry, State.withBench_tear]
  cases s.tearEntry t.key with
  | some old => exact (congrArg (State.handNotices · t.key) (s.withBench_mergeEntry b old t)).trans (State.withBench_handNotices ..)
  | none =>
    dsimp only
    cases s.tear.entries with
    | nil => rw [State.withBench_appendEntry, State.withBench_handNotices]
    | cons oldest rest =>
      dsimp only
      split
      · rw [State.withBench_appendEntry, State.withBench_handNotices]
      · rw [State.withBench_evict, State.withBench_appendEntry, State.withBench_handNotices]

theorem State.withBench_passDebt : (s.withBench b).passDebt p = (s.passDebt p).withBench b := by
  unfold State.passDebt
  rw [State.withBench_pos, State.withBench_link]
  dsimp only
  cases (s.pos p).identity with
  | none => dsimp only; rw [State.withBench_modPos]
  | some id =>
    dsimp only
    split
    · rw [State.withBench_modPos]
    · rw [State.withBench_modPos, State.withBench_createEntry]

/-- Engines put aside may be anything. -/
theorem State.UpToGrants.aside {u b t : State} (h : (u.withBench b).UpToGrants t) : u.UpToEngines t := by
  obtain ⟨hpos, -, -, hrest⟩ := h
  exact ⟨hpos, hrest⟩

end

/-! ### The record queue -/

theorem State.evict_queue (s : State) (t : TearEntry) : (s.evict t).queue = s.queue := by
  unfold State.evict State.releaseWaiters
  dsimp only
  rw [State.mapPos_queue]
  rfl

theorem State.appendEntry_queue (s : State) (t : TearEntry) : (s.appendEntry t).queue = s.queue := rfl

theorem State.mergeEntry_queue (s : State) (old new : TearEntry) : (s.mergeEntry old new).queue = s.queue := rfl

theorem State.createEntry_queue (s : State) (t : TearEntry) : (s.createEntry t).queue = s.queue := by
  unfold State.createEntry State.handNotices
  rw [State.mapPos_queue]
  cases s.tearEntry t.key with
  | some old => rw [State.mergeEntry_queue]
  | none =>
    dsimp only
    cases s.tear.entries with
    | nil => rw [State.appendEntry_queue]
    | cons oldest rest =>
      dsimp only
      split
      · rw [State.appendEntry_queue]
      · rw [State.appendEntry_queue, State.evict_queue]

theorem State.passDebt_queue (s : State) (p : PosId) : (s.passDebt p).queue = s.queue := by
  unfold State.passDebt
  dsimp only
  split
  · rfl
  · split
    · rfl
    · rw [State.createEntry_queue]
      rfl

/-! ### What is left of a call when its card has left -/

/-- What the end of a call or recovery turns on is as it was. -/
structure Position.SameEnd (x y : Position) : Prop where
  state : y.state = x.state
  identity : y.identity = x.identity
  cardLeft : y.cardLeft = x.cardLeft
  inFlight : y.inFlight = x.inFlight
  forcedClear : y.forcedClear = x.forcedClear
  pendingAlloc : y.pendingAlloc = x.pendingAlloc
  endCause : y.call.map (·.endCause) = x.call.map (·.endCause)
  recovery : y.recovery.isSome = x.recovery.isSome

theorem Position.SameEnd.trans {x y z : Position} (h1 : x.SameEnd y) (h2 : y.SameEnd z) : x.SameEnd z where
  state := h2.state.trans h1.state
  identity := h2.identity.trans h1.identity
  cardLeft := h2.cardLeft.trans h1.cardLeft
  inFlight := h2.inFlight.trans h1.inFlight
  forcedClear := h2.forcedClear.trans h1.forcedClear
  pendingAlloc := h2.pendingAlloc.trans h1.pendingAlloc
  endCause := h2.endCause.trans h1.endCause
  recovery := h2.recovery.trans h1.recovery

/-- A position with a call or a recovery alone keeps to it. -/
theorem Position.SameEnd.one {x y : Position} (h : x.SameEnd y) (hx : x.call = none ∨ x.recovery = none) :
    y.call = none ∨ y.recovery = none := by
  refine hx.imp (fun hc => ?_) (fun hr => ?_)
  · simpa [hc] using h.endCause
  · simpa [hr] using h.recovery

theorem Position.mapUnits_sameEnd (f : Units → Units) (x : Position) : x.SameEnd (x.mapUnits f) := by
  unfold Position.mapUnits
  split
  · next c hc => exact ⟨rfl, rfl, rfl, rfl, rfl, rfl, by rw [hc]; rfl, rfl⟩
  · exact ⟨rfl, rfl, rfl, rfl, rfl, rfl, rfl, Option.isSome_map⟩

/-- With a call or a recovery, but not both, the units counted are those of the one there is. -/
theorem Position.counting_eq {x : Position} (h : x.call = none ∨ x.recovery = none) (f : Units → Units) :
    x.counting f = x.mapUnits f := by
  unfold Position.counting Position.mapUnits
  cases hc : x.call with
  | none => simp
  | some c =>
    have hr : x.recovery = none := by simpa [hc] using h
    cases x
    subst hr
    rfl

theorem Position.passed_sameEnd (x : Position) : x.SameEnd x.passed := by
  unfold Position.passed
  split
  · exact ⟨rfl, rfl, rfl, rfl, rfl, rfl, rfl, rfl⟩
  · exact .trans (x.mapUnits_sameEnd _) ⟨rfl, rfl, rfl, rfl, rfl, rfl, rfl, rfl⟩

theorem Position.debtLost_sameEnd (x : Position) : x.SameEnd x.debtLost :=
  .trans (x.mapUnits_sameEnd _) ⟨rfl, rfl, rfl, rfl, rfl, rfl, rfl, rfl⟩

/-- Nothing is owed at the position, and no loss of its card is still to be taken. -/
structure Position.Paid (x : Position) : Prop where
  debt : x.debt = 0
  doubt : x.doubt = none
  cardLost : x.cardLost = false

theorem Position.passed_paid {x : Position} (h : x.identity ≠ none) : x.passed.Paid := by
  unfold Position.passed
  split
  · next hn =>
    obtain ⟨hd, hb⟩ := hn.resolve_left h
    exact ⟨hd, hb, rfl⟩
  · exact ⟨rfl, rfl, rfl⟩

theorem Position.debtLost_paid (x : Position) : x.debtLost.Paid := ⟨rfl, rfl, rfl⟩

/-! ### The record of a clearing, and of a recovery, without its card -/

theorem Position.vacated_of_block {x : Position} (h : x.blockPending = true) : x.arriveBlocked = x.vacated := by
  rw [Position.arriveBlocked_eq, Position.vacated, if_pos h]

/-- The fields that an arrival in VACANT keeps, and its states. -/
theorem Position.vacated_place (x : Position) :
    x.vacated.state ≠ .clearing ∧ x.vacated.state ≠ .recovering ∧ x.vacated.pendingAlloc = x.pendingAlloc ∧
      x.vacated.cardLost = x.cardLost := by
  unfold Position.vacated
  split
  · exact ⟨nofun, nofun, rfl, rfl⟩
  · split
    · exact ⟨nofun, nofun, rfl, rfl⟩
    · exact ⟨nofun, nofun, rfl, rfl⟩

/-- A finished clearing whose card has left writes its record, and its position goes to VACANT (R35). -/
theorem State.settle_of_left {u : State} {p : PosId} {c : Call} {why : EndCause} (hs : (u.pos p).state = .clearing)
    (hforced : (u.pos p).forcedClear = false) (hpaid : (u.pos p).Paid) (hf : (u.pos p).inFlight = none)
    (hleft : (u.pos p).cardLeft = true) (hc : (u.pos p).call = some c) (hw : c.endCause = some why) :
    u.settle p = (u.recorded (c.written p (u.pos p).key u.queue.nextSequence why)).modPos p fun x =>
      ({ x with call := none, reservation := false } : Position).vacated := by
  obtain ⟨hdebt, hdoubt, hlost⟩ := hpaid
  have hdone : (u.pos p).clearingDone = true := by
    simp [Position.clearingDone, hs, hforced, hdebt, hdoubt, hlost, hf]
  unfold State.settle State.finishClearing
  dsimp only
  rw [if_pos hdone, State.closeCall_eq hc hw, State.modPos_modPos, State.modPos_modPos]
  by_cases hb : (u.pos p).blockPending = true
  · rw [if_pos hb]
    exact State.modPos_congr (Position.vacated_of_block hb)
  · rw [if_neg hb, if_pos (by rw [hleft]; rfl)]
    exact State.modPos_congr (Position.arriveVacant_eq _)

/-- A recovery that ends without its card writes its record, and its position goes to VACANT (R37, R119). -/
theorem State.closeRecovery_vacated {u : State} {p : PosId} {r : Recovery} (h : (u.pos p).recovery = some r)
    (why : EndCause) :
    (u.closeRecovery p why).modPos p (·.arriveVacant) =
      (u.recorded (r.written p (u.pos p).key u.queue.nextSequence why)).modPos p fun x =>
        ({ x with recovery := none, reservation := false } : Position).vacated := by
  rw [State.closeRecovery_eq h, State.modPos_modPos]
  exact State.modPos_congr (Position.arriveVacant_eq _)

theorem State.closeRecovery_cardLost (u : State) (p : PosId) (why : EndCause) :
    ((u.closeRecovery p why).pos p).cardLost = (u.pos p).cardLost := by
  unfold State.closeRecovery
  split
  · rfl
  · rw [State.modPos_pos_self]
    rfl

/-! ### The completion of an operation without its card -/

/-- An operation due in service whose position's card has left, with the operation in flight. -/
structure State.DueLeft (s : State) (e : EngineId) (op : EngineOp) (o : OpOutcome) (id : CardId) : Prop where
  due : (s.eng e).Due op o
  lane : (s.eng e).lane = .inService
  inFlight : (s.pos op.position).inFlight = some { engine := e, op := op.op, discard := false }
  pendingAlloc : (s.pos op.position).pendingAlloc = none
  cardLost : (s.pos op.position).cardLost = true
  cardLeft : (s.pos op.position).cardLeft = true
  identity : (s.pos op.position).identity = some id

/-- What the completion makes of a position without its card, from the state in which nothing more is owed there. -/
def State.LeavesAs (s : State) (e : EngineId) (op : EngineOp) (id : CardId) (u : State) (why : EndCause) : Prop :=
  ∃ t, exec (completionOf op.op e) s = .next t ∧
    ((s.pos op.position).state = .clearing → (s.pos op.position).forcedClear = true → u.UpToEngines t) ∧
    (∀ c w, (s.pos op.position).state = .clearing → (s.pos op.position).forcedClear = false →
      (s.pos op.position).call = some c → c.endCause = some w →
      ∃ c', (u.pos op.position).call = some c' ∧
        ((u.recorded (c'.written op.position (some id.key) s.queue.nextSequence w)).modPos op.position fun x =>
          ({ x with call := none, reservation := false } : Position).vacated).UpToEngines t) ∧
    (∀ r, (s.pos op.position).state = .recovering → (s.pos op.position).recovery = some r →
      ∃ r', (u.pos op.position).recovery = some r' ∧
        ((u.recorded (r'.written op.position (some id.key) s.queue.nextSequence why)).modPos op.position fun x =>
          ({ x with recovery := none, reservation := false } : Position).vacated).UpToEngines t)

section
variable {s u : State} {e : EngineId} {op : EngineOp} {o : OpOutcome} {id : CardId} {why : EndCause}
  (h : s.DueLeft e op o id)
include h

theorem State.DueLeft.laneAfter : (s.eng e).laneAfter o ≠ .faulted := by
  unfold Engine.laneAfter
  rw [h.lane]
  split
  · nofun
  · cases o <;> nofun

theorem State.DueLeft.discarding : (s.pos op.position).discarding = false := by
  simp [Position.discarding, h.inFlight]

/-- A completion from what is left once the outcome has been taken and the debt passed. -/
theorem State.DueLeft.completed {v w : State} (hv : ((s.ended e op o).takeOutcome op.position op o).passLost op.position = v)
    (hw : v.settle op.position = w.withBench (s.ended e op o)) (halloc : (w.pos op.position).pendingAlloc = none) :
    w.UpToEngines (s.complete e op o) := by
  have hc : s.completed e op o = w.withBench (s.ended e op o) := by
    rw [State.completed_eq h.discarding h.laneAfter, hv, hw]
    exact State.applyPending_of_none halloc
  have hu := s.complete_upToGrants e op o
  rw [hc] at hu
  exact hu.aside

/-- The three ends of a position without its card (R35, R37, R119). -/
theorem State.DueLeft.leavesAs
    (hclear : (s.pos op.position).state = .clearing →
      ((s.ended e op o).takeOutcome op.position op o).passLost op.position = u.withBench (s.ended e op o))
    (hrecover : (s.pos op.position).state = .recovering →
      ((s.ended e op o).takeOutcome op.position op o).passLost op.position =
        ((u.withBench (s.ended e op o)).closeRecovery op.position why).modPos op.position (·.arriveVacant))
    (hsame : ({ s.pos op.position with inFlight := none } : Position).SameEnd (u.pos op.position))
    (hpaid : (u.pos op.position).Paid) (hq : u.queue = s.queue) : s.LeavesAs e op id u why := by
  obtain ⟨hstate, hid, hleft, hf, hforced, halloc, hend, hrec⟩ := hsame
  have hkey : (u.pos op.position).key = some id.key := congrArg (Option.map fun y : CardId => y.key) (hid.trans h.identity)
  have hnone := halloc.trans h.pendingAlloc
  refine ⟨_, exec_completion h.due, fun hs hfc => ?_, fun c w hs hfc hc hw => ?_, fun r hs hr => ?_⟩
  · refine h.completed (hclear hs) (State.settle_of_clearing _ _ (hstate.trans hs) (.inl (hforced.trans hfc))) hnone
  · obtain ⟨c', hc', hw'⟩ : ∃ c', (u.pos op.position).call = some c' ∧ c'.endCause = some w := by
      have : (u.pos op.position).call.map (·.endCause) = some (some w) := hend.trans (by rw [hc, ← hw]; rfl)
      simpa using this
    refine ⟨c', hc', ?_⟩
    have hset := State.settle_of_left (u := u.withBench (s.ended e op o)) (hstate.trans hs) (hforced.trans hfc) hpaid hf
      (hleft.trans h.cardLeft) hc' hw'
    rw [State.withBench_pos, hkey] at hset
    rw [← hq]
    refine h.completed (hclear hs) hset ?_
    rw [State.modPos_pos_self]
    exact (Position.vacated_place _).2.2.1.trans hnone
  · obtain ⟨r', hr'⟩ : ∃ r', (u.pos op.position).recovery = some r' :=
      Option.isSome_iff_exists.mp (hrec.trans (by rw [hr]; rfl))
    refine ⟨r', hr', ?_⟩
    have hclose := State.closeRecovery_vacated (u := u.withBench (s.ended e op o)) hr' why
    rw [State.withBench_pos, hkey] at hclose
    rw [← hq]
    obtain ⟨hs1, hs2, ha, -⟩ := Position.vacated_place
      ({ u.pos op.position with recovery := none, reservation := false } : Position)
    have hpos : ((u.recorded (r'.written op.position (some id.key) u.queue.nextSequence why)).modPos op.position fun x =>
        ({ x with recovery := none, reservation := false } : Position).vacated).pos op.position =
        ({ u.pos op.position with recovery := none, reservation := false } : Position).vacated :=
      State.modPos_pos_self ..
    refine h.completed ((hrecover hs).trans hclose) (State.settle_of_other _ _ ?_ ?_) ?_
    · exact fun hc => hs1 ((congrArg Position.state hpos).symm.trans hc)
    · exact fun hc => hs2 ((congrArg Position.state hpos).symm.trans hc)
    · exact (congrArg Position.pendingAlloc hpos).trans (ha.trans hnone)

omit h in
/-- A position and totals moved after the operation has ended, with the engines put aside. -/
theorem State.ended_moved (s : State) (e : EngineId) (op : EngineOp) (o : OpOutcome) (f : Position → Position)
    (a : Accounting) :
    (s.ended e op o).moved op.position f { a with engines := (s.ended e op o).acct.engines } =
      (({ s with acct := a } : State).modPos op.position fun x => f { x with inFlight := none }).withBench
        (s.ended e op o) := by
  unfold State.moved
  rw [show (s.ended e op o).modPos op.position f = _ from State.modPos_modPos ..]
  rfl

/-- Out of CLEARING and RECOVERING nothing is claimed. -/
theorem State.DueLeft.leavesAs_of
    (hl : (s.pos op.position).state = .clearing ∨ (s.pos op.position).state = .recovering → s.LeavesAs e op id u why) :
    s.LeavesAs e op id u why := by
  by_cases hst : (s.pos op.position).state = .clearing ∨ (s.pos op.position).state = .recovering
  · exact hl hst
  · exact ⟨_, exec_completion h.due, fun hs => absurd (.inl hs) hst, fun _ _ hs => absurd (.inl hs) hst,
      fun _ hs => absurd (.inr hs) hst⟩

/-- An outcome that leaves the loss of the card to be taken: what is then owed is passed (R117, R119). -/
theorem State.DueLeft.passes {f : Position → Position} {a : Accounting}
    (hst : (s.pos op.position).state = .clearing ∨ (s.pos op.position).state = .recovering)
    (hv : (s.ended e op o).takeOutcome op.position op o =
      (s.ended e op o).moved op.position f { a with engines := (s.ended e op o).acct.engines })
    (hsame : ({ s.pos op.position with inFlight := none } : Position).SameEnd
      (f { s.pos op.position with inFlight := none }))
    (hlost : (f { s.pos op.position with inFlight := none }).cardLost = true) :
    s.LeavesAs e op id
      ((({ s with acct := a } : State).modPos op.position fun x => f { x with inFlight := none }).passDebt op.position)
      .cardWithdrawn := by
  rw [State.ended_moved] at hv
  generalize hw : ({ s with acct := a } : State).modPos op.position (fun x => f { x with inFlight := none }) = w at hv ⊢
  have hpos : w.pos op.position = f { s.pos op.position with inFlight := none } := by
    rw [← hw]
    exact State.modPos_pos_self ..
  have hstate : (w.pos op.position).state = (s.pos op.position).state := (congrArg Position.state hpos).trans hsame.state
  have hpass : (w.passDebt op.position).pos op.position = (w.pos op.position).passed := by
    refine State.passDebt_pos ?_
    rw [hstate]
    rcases hst with hs | hs <;> rw [hs] <;> nofun
  have hlost' : ((w.withBench (s.ended e op o)).pos op.position).cardLost = true :=
    (congrArg Position.cardLost hpos).trans hlost
  refine h.leavesAs (fun hs => ?_) (fun hs => ?_) ?_ ?_ ?_
  · rw [hv, State.passLost, if_pos hlost', State.withBench_pos, hstate, hs, State.withBench_passDebt]
    rfl
  · rw [hv, State.passLost, if_pos hlost', State.withBench_pos, hstate, hs, if_pos rfl, State.loseRecovery,
      State.withBench_passDebt]
  · rw [hpass, hpos]
    exact hsame.trans (Position.passed_sameEnd _)
  · rw [hpass, hpos]
    refine Position.passed_paid ?_
    rw [hsame.identity, show Position.identity _ = _ from h.identity]
    nofun
  · rw [State.passDebt_queue, ← hw]
    rfl

/-- An outcome that ends in a CARD_FAULT: what was owed is written off (R78, R119). -/
theorem State.DueLeft.faults {f : Position → Position} {a : Accounting}
    (hv : (s.ended e op o).takeOutcome op.position op o =
      ((s.ended e op o).moved op.position f { a with engines := (s.ended e op o).acct.engines }).cardFault op.position)
    (hsame : ({ s.pos op.position with inFlight := none } : Position).SameEnd
      (f { s.pos op.position with inFlight := none }))
    (hlost : (f { s.pos op.position with inFlight := none }).cardLost = true) :
    s.LeavesAs e op id
      (({ s with acct := a.plusWrittenOff (f { s.pos op.position with inFlight := none }).debt } : State).modPos op.position
        fun x => (f { x with inFlight := none }).debtLost) .cardFault := by
  have hended : (s.ended e op o).pos op.position = { s.pos op.position with inFlight := none } := s.ended_pos_self e op o
  have hM (g : Position → Position) (b : Accounting) : ((s.ended e op o).moved op.position g b).pos op.position =
      g { s.pos op.position with inFlight := none } := by
    rw [State.moved_pos_self, hended]
  have hdebt : (((s.ended e op o).moved op.position f { a with engines := (s.ended e op o).acct.engines }).debtLost
      op.position) = (({ s with acct := a.plusWrittenOff (f { s.pos op.position with inFlight := none }).debt } :
        State).modPos op.position fun x => (f { x with inFlight := none }).debtLost).withBench (s.ended e op o) := by
    rw [State.debtLost_moved, hended]
    exact s.ended_moved e op o (fun x => (f x).debtLost) (a.plusWrittenOff _)
  rw [State.cardFault_def, hdebt, hM, hsame.state] at hv
  generalize hw : ({ s with acct := a.plusWrittenOff (f { s.pos op.position with inFlight := none }).debt } :
    State).modPos op.position (fun x => (f { x with inFlight := none }).debtLost) = w at hv ⊢
  have hpos : w.pos op.position = (f { s.pos op.position with inFlight := none }).debtLost := by
    rw [← hw]
    exact State.modPos_pos_self ..
  have hsame' := hsame.trans ((f { s.pos op.position with inFlight := none }).debtLost_sameEnd)
  rw [← hpos] at hsame'
  have hpaid : (w.pos op.position).Paid := by
    rw [hpos]
    exact Position.debtLost_paid _
  refine h.leavesAs (fun hs => ?_) (fun hs => ?_) hsame' hpaid ?_
  · rw [hv, show Position.state _ = _ from hs]
    exact State.passLost_of_kept hpaid.cardLost
  · rw [hv, show Position.state _ = _ from hs]
    dsimp only
    have hvacate : ((w.withBench (s.ended e op o)).closeRecovery op.position .cardFault).modPos op.position (fun y =>
        if (f { s.pos op.position with inFlight := none }).cardLost then y.arriveVacant else y.arriveRefused .faulty) =
        ((w.withBench (s.ended e op o)).closeRecovery op.position .cardFault).modPos op.position (·.arriveVacant) :=
      State.modPos_congr (if_pos hlost)
    rw [hvacate]
    refine State.passLost_of_kept ?_
    rw [State.modPos_pos_self, Position.arriveVacant_eq]
    obtain ⟨-, -, -, hkept⟩ := Position.vacated_place
      (((w.withBench (s.ended e op o)).closeRecovery op.position .cardFault).pos op.position)
    rw [hkept, State.closeRecovery_cardLost]
    exact hpaid.cardLost
  · rw [← hw]
    rfl

end

end Sys2Proof.Machine
end

section
/-!
PROOFS. The outcomes of BURN and VERIFY at a position whose card has left, row by row (R74 to R78, R117, R119).
-/

namespace Sys2Proof.Machine

/-! ### Units counted in a call or a recovery -/

theorem Accounting.plusBurned_zero (a : Accounting) : a.plusBurned 0 = a := by
  unfold Accounting.plusBurned
  simp

theorem Position.unitBurned_sameEnd (x : Position) : x.SameEnd x.unitBurned :=
  .trans (x.mapUnits_sameEnd _) ⟨rfl, rfl, rfl, rfl, rfl, rfl, rfl, rfl⟩

theorem Position.mapUnits_cardLost (f : Units → Units) (x : Position) : (x.mapUnits f).cardLost = x.cardLost := by
  unfold Position.mapUnits
  split <;> rfl

section
variable {x : Position} (h : x.call = none ∨ x.recovery = none)
include h

theorem Position.unitBurned_counting :
    x.unitBurned =
      { (x.counting fun u => { u with burned := u.burned + 1 }) with debt := x.debt - 1, retry := 0 } := by
  rw [Position.counting_eq h]
  rfl

/-- One unit found burned by an anomaly: the order in which unit and mark are set does not matter. -/
theorem Position.burned_anomalous_counting (m : Nat) :
    ({ x.markAnomaly.unitBurned with remaining := m } : Position) =
      ({ (x.counting fun u => { u with burned := u.burned + 1 }) with
          debt := x.debt - 1, remaining := m, retry := 0 } : Position).counting fun u => { u with anomaly := true } := by
  unfold Position.markAnomaly Position.unitBurned Position.mapUnits Position.counting
  cases hc : x.call with
  | none =>
    cases hr : x.recovery with
    | none => rfl
    | some r => simp
  | some c =>
    have hr : x.recovery = none := by simpa [hc] using h
    simp [hr]

end

/-! ### Passing and writing off -/

/-- The debt is passed after an outcome that counts units and moves the position. -/
def State.PassesAs (s : State) (e : EngineId) (op : EngineOp) (id : CardId) (n : Nat) (g : Position → Position) : Prop :=
  s.LeavesAs e op id
    ((({ s with acct := s.acct.plusBurned n } : State).modPos op.position fun x => g { x with inFlight := none }).passDebt
      op.position) .cardWithdrawn

/-- The debt is written off after an outcome that counts units and moves the position. -/
def State.FaultsAs (s : State) (e : EngineId) (op : EngineOp) (id : CardId) (n : Nat) (g : Position → Position) : Prop :=
  s.LeavesAs e op id
    (({ s with acct := (s.acct.plusBurned n).plusWrittenOff ((s.pos op.position).debt - n) } : State).modPos op.position
      fun x =>
        { ((g x).counting fun u => { u with writtenOff := u.writtenOff + (x.debt - n) }) with
          inFlight := none, debt := 0, doubt := none, faulty := true, retry := 0, cardLost := false }) .cardFault

section
variable {s : State} {e : EngineId} {op : EngineOp} {o : OpOutcome} {id : CardId} {n : Nat} {f g : Position → Position}
  (h : s.DueLeft e op o id)
include h

theorem State.DueLeft.passesAs
    (hst : (s.pos op.position).state = .clearing ∨ (s.pos op.position).state = .recovering)
    (hv : (s.ended e op o).takeOutcome op.position op o =
      (s.ended e op o).moved op.position f ((s.ended e op o).acct.plusBurned n))
    (hfg : f ((s.ended e op o).pos op.position) = g ((s.ended e op o).pos op.position))
    (hsame : ((s.ended e op o).pos op.position).SameEnd (f ((s.ended e op o).pos op.position)))
    (hlost : (f ((s.ended e op o).pos op.position)).cardLost = ((s.ended e op o).pos op.position).cardLost) :
    s.PassesAs e op id n g := by
  have hp := s.ended_pos_self e op o
  rw [State.moved_congr hfg] at hv
  rw [hfg, hp] at hsame hlost
  exact h.passes (a := s.acct.plusBurned n) hst hv hsame (hlost.trans h.cardLost)

theorem State.DueLeft.passesAs_of
    (hl : (s.pos op.position).state = .clearing ∨ (s.pos op.position).state = .recovering → s.PassesAs e op id n g) :
    s.PassesAs e op id n g :=
  h.leavesAs_of hl

theorem State.DueLeft.faultsAs
    (hv : (s.ended e op o).takeOutcome op.position op o =
      ((s.ended e op o).moved op.position f ((s.ended e op o).acct.plusBurned n)).cardFault op.position)
    (hone : (s.pos op.position).call = none ∨ (s.pos op.position).recovery = none)
    (hfg : ({ g (s.pos op.position) with inFlight := none } : Position) = f ((s.ended e op o).pos op.position))
    (hdebt : (f ((s.ended e op o).pos op.position)).debt = (s.pos op.position).debt - n)
    (hsame : ((s.ended e op o).pos op.position).SameEnd (f ((s.ended e op o).pos op.position)))
    (hlost : (f ((s.ended e op o).pos op.position)).cardLost = ((s.ended e op o).pos op.position).cardLost) :
    s.FaultsAs e op id n g := by
  have hp := s.ended_pos_self e op o
  have hy : (f ((s.ended e op o).pos op.position)).call = none ∨ (f ((s.ended e op o).pos op.position)).recovery = none :=
    hsame.one (by rwa [hp])
  have hgoal : (f { s.pos op.position with inFlight := none }).debtLost =
      { ((g (s.pos op.position)).counting fun u =>
            { u with writtenOff := u.writtenOff + ((s.pos op.position).debt - n) }) with
        inFlight := none, debt := 0, doubt := none, faulty := true, retry := 0, cardLost := false } := by
    rw [← hp, Position.debtLost, ← Position.counting_eq hy, hdebt, ← hfg]
    rfl
  have hl := h.faults (a := s.acct.plusBurned n) hv (by rw [← hp]; exact hsame)
    (by rw [← hp, hlost, hp]; exact h.cardLost)
  rw [show (f { s.pos op.position with inFlight := none }).debt = (s.pos op.position).debt - n from
    (congrArg (fun x => (f x).debt) hp).symm.trans hdebt] at hl
  unfold State.FaultsAs
  rw [State.modPos_congr (s := { s with acct := (s.acct.plusBurned n).plusWrittenOff ((s.pos op.position).debt - n) })
    (g := fun x => (f { x with inFlight := none }).debtLost) hgoal.symm]
  exact hl

end

end Sys2Proof.Machine
end

section
/-!
PROOFS. A BURN and a VERIFY that end without their card, in CLEARING and RECOVERING; a BURN without a unit (R74 to R78,
R117 to R119).
-/

namespace Sys2Proof.Machine

/-- A unit burned, with what is left on the card. -/
def Position.burnedTo (left : Nat) (x : Position) : Position :=
  { (x.counting fun u => { u with burned := u.burned + 1 }) with debt := x.debt - 1, remaining := left, retry := 0 }

/-- The anomaly mark of the call or recovery set. -/
def Position.anomalous (x : Position) : Position := x.counting fun u => { u with anomaly := true }

section
variable {x : Position} (h : x.call = none ∨ x.recovery = none)
include h

theorem Position.unitDone_burnedTo :
    ({ x.unitBurned with remaining := x.unitBurned.remaining - 1 } : Position) = x.burnedTo (x.remaining - 1) := by
  rw [Position.unitBurned_counting h]
  rfl

theorem Position.markAnomaly_anomalous : x.markAnomaly = x.anomalous :=
  (Position.counting_eq h _).symm

theorem Position.burned_anomalous_burnedTo (m : Nat) :
    ({ x.markAnomaly.unitBurned with remaining := m } : Position) = (x.burnedTo m).anomalous :=
  Position.burned_anomalous_counting h m

end

theorem Position.markAnomaly_sameEnd (x : Position) : x.SameEnd x.markAnomaly := x.mapUnits_sameEnd _

theorem Position.unitBurned_cardLost (x : Position) : x.unitBurned.cardLost = x.cardLost := x.mapUnits_cardLost _

theorem Position.burned_anomalous_sameEnd (m : Nat) (x : Position) :
    x.SameEnd { x.markAnomaly.unitBurned with remaining := m } :=
  (x.markAnomaly_sameEnd.trans (Position.unitBurned_sameEnd _)).trans ⟨rfl, rfl, rfl, rfl, rfl, rfl, rfl, rfl⟩

theorem Position.burned_anomalous_cardLost (m : Nat) (x : Position) :
    ({ x.markAnomaly.unitBurned with remaining := m } : Position).cardLost = x.cardLost :=
  (Position.unitBurned_cardLost _).trans (x.mapUnits_cardLost _)

theorem Position.SameEnd.refl (x : Position) : x.SameEnd x := ⟨rfl, rfl, rfl, rfl, rfl, rfl, rfl, rfl⟩

theorem Position.undoubted_sameEnd (x : Position) : x.SameEnd { x with doubt := none } :=
  ⟨rfl, rfl, rfl, rfl, rfl, rfl, rfl, rfl⟩

theorem Position.lastUnitTest_of_other {x : Position} (h : x.state ≠ .metering) : x.lastUnitTest = x := by
  unfold Position.lastUnitTest
  split
  · rfl
  · exact if_neg fun hc => h hc.1

theorem Position.cardLeft_set {x : Position} (h : x.cardLeft = true) : ({ x with cardLeft := true } : Position) = x := by
  cases x
  subst h
  rfl

theorem Position.setDoubt_debtLost (x : Position) : x.setDoubt.debtLost = x.debtLost := by
  unfold Position.debtLost Position.mapUnits Position.setDoubt
  dsimp only
  split <;> rfl

/-- A CARD_FAULT asks of a position its state, its card lost mark and what it owes, not its doubt. -/
theorem State.cardFault_moved_congr {s : State} {p : PosId} {f g : Position → Position} (a : Accounting)
    (h : (f (s.pos p)).debtLost = (g (s.pos p)).debtLost) (hstate : (f (s.pos p)).state = (g (s.pos p)).state)
    (hdebt : (f (s.pos p)).debt = (g (s.pos p)).debt) (hlost : (f (s.pos p)).cardLost = (g (s.pos p)).cardLost) :
    (s.moved p f a).cardFault p = (s.moved p g a).cardFault p := by
  have hdl : (s.moved p f a).debtLost p = (s.moved p g a).debtLost p := by
    rw [State.debtLost_moved, State.debtLost_moved, hdebt]
    exact State.moved_congr h _
  rw [State.cardFault_def, State.cardFault_def, State.moved_pos_self, State.moved_pos_self, hstate, hlost, hdl]

section
variable {s : State} {e : EngineId} {op : EngineOp} {o : OpOutcome} {id : CardId} (h : s.DueLeft e op o id)
  (hone : (s.pos op.position).call = none ∨ (s.pos op.position).recovery = none)
include h hone

theorem State.DueLeft.burn_rows (hop : op.op = .burn) :
    (∀ n, o = .done n → s.PassesAs e op id 1 fun x => x.burnedTo (x.remaining - 1)) ∧
    (∀ n, o = .notTaken n → (s.pos op.position).retry < 2 → s.PassesAs e op id 0 fun x => { x with retry := x.retry + 1 }) ∧
    (o = .timeout → (s.pos op.position).retry < 2 →
      s.PassesAs e op id 0 fun x => { x with doubt := some x.remaining, retry := x.retry + 1 }) ∧
    (o = .cardGone ∨ o = .busFault ∨ o = .abandoned → s.PassesAs e op id 0 fun x => { x with doubt := some x.remaining }) ∧
    (∀ m, o = .anomaly m → m + 1 < op.before → (s.pos op.position).debt - 1 ≤ m →
      s.PassesAs e op id 1 fun x => (x.burnedTo m).anomalous) ∧
    (∀ m, o = .anomaly m → m + 1 < op.before → m < (s.pos op.position).debt - 1 →
      s.FaultsAs e op id 1 fun x => (x.burnedTo m).anomalous) ∧
    (∀ m, o = .anomaly m → op.before < m → s.FaultsAs e op id 0 (·.anomalous)) ∧
    (∀ n, o = .notTaken n → (s.pos op.position).retry = 2 → s.FaultsAs e op id 0 fun x => x) ∧
    (o = .timeout → (s.pos op.position).retry = 2 → s.FaultsAs e op id 0 fun x => x) := by
  have hp := s.ended_pos_self e op o
  have hone' : ((s.ended e op o).pos op.position).call = none ∨ ((s.ended e op o).pos op.position).recovery = none := by
    rwa [hp]
  have hdebt : ((s.ended e op o).pos op.position).debt = (s.pos op.position).debt := (congrArg Position.debt hp).trans rfl
  have hretry : ((s.ended e op o).pos op.position).retry = (s.pos op.position).retry :=
    (congrArg Position.retry hp).trans rfl
  have hout : (s.ended e op o).takeOutcome op.position op o = (s.ended e op o).burnOutcome op.position op.before o := by
    unfold State.takeOutcome
    rw [hop]
  have hid := State.moved_id (s.ended e op o) op.position
  have hzero := (s.ended e op o).acct.plusBurned_zero
  have hlow (m : Nat) (ho : o = .anomaly m) (hm : m + 1 < op.before) : (s.ended e op o).takeOutcome op.position op o =
      ((s.ended e op o).moved op.position (·.markAnomaly) (s.ended e op o).acct).unitsLost op.position m := by
    rw [hout, ho]
    exact if_pos hm
  have hleft (m : Nat) : ({ ((s.ended e op o).pos op.position).markAnomaly.unitBurned with remaining := m } :
      Position).debt = (s.pos op.position).debt - 1 :=
    (congrArg Position.debt (Position.burned_anomalous_burnedTo hone' m)).trans (congrArg (· - 1) hdebt)
  refine ⟨?_, ?_, ?_, ?_, ?_, ?_, ?_, ?_, ?_⟩
  · rintro n rfl
    refine h.passesAs_of fun hst => h.passesAs
      (f := fun x => { x.unitBurned with remaining := x.unitBurned.remaining - 1 }) hst (hout.trans ?_)
      (Position.unitDone_burnedTo hone')
      ((Position.unitBurned_sameEnd _).trans ⟨rfl, rfl, rfl, rfl, rfl, rfl, rfl, rfl⟩) (Position.unitBurned_cardLost _)
    exact (congrArg (fun w : State => w.unitDone op.position) hid.symm).trans (State.unitDone_moved ..)
  · rintro n rfl hr
    refine h.passesAs_of fun hst => h.passesAs (f := fun x => { x with retry := x.retry + 1 }) hst (hout.trans ?_) rfl
      ⟨rfl, rfl, rfl, rfl, rfl, rfl, rfl, rfl⟩ rfl
    rw [hzero]
    refine (congrArg (fun w : State => w.strike op.position) hid.symm).trans ((State.strike_moved ..).trans (if_neg ?_))
    change ¬ 3 ≤ ((s.ended e op (.notTaken n)).pos op.position).retry + 1
    omega
  · rintro rfl hr
    refine h.passesAs_of fun hst => h.passesAs (f := fun x => { x with doubt := some x.remaining, retry := x.retry + 1 })
      hst (hout.trans ?_) rfl ⟨rfl, rfl, rfl, rfl, rfl, rfl, rfl, rfl⟩ rfl
    rw [hzero]
    refine (State.strike_moved (s.ended e op .timeout) op.position (·.setDoubt) _).trans (if_neg ?_)
    change ¬ 3 ≤ ((s.ended e op .timeout).pos op.position).retry + 1
    omega
  · intro ho
    refine h.passesAs_of fun hst => h.passesAs (f := fun x => { x with doubt := some x.remaining })
      hst (hout.trans ?_) rfl ⟨rfl, rfl, rfl, rfl, rfl, rfl, rfl, rfl⟩ rfl
    rw [hzero]
    rcases ho with rfl | rfl | rfl <;> rfl
  · intro m ho hm hle
    refine h.passesAs_of fun hst => h.passesAs (f := fun x => { x.markAnomaly.unitBurned with remaining := m }) hst
      ?_ (Position.burned_anomalous_burnedTo hone' m) (Position.burned_anomalous_sameEnd m _)
      (Position.burned_anomalous_cardLost m _)
    rw [hlow m ho hm, State.unitsLost_moved, if_neg]
    · refine State.moved_congr (Position.lastUnitTest_of_other ?_) _
      rw [(Position.burned_anomalous_sameEnd m _).state, hp]
      rcases hst with hs | hs <;> exact fun hc => PosState.noConfusion (hs.symm.trans hc)
    · exact Nat.not_lt.mpr (Nat.le_trans (Nat.le_of_eq (hleft m)) hle)
  · intro m ho hm hlt
    refine h.faultsAs (f := fun x => { x.markAnomaly.unitBurned with remaining := m }) ?_ hone ?_ (hleft m)
      (Position.burned_anomalous_sameEnd m _) (Position.burned_anomalous_cardLost m _)
    · rw [hlow m ho hm, State.unitsLost_moved, if_pos]
      exact Nat.lt_of_lt_of_eq hlt (hleft m).symm
    · exact ((Position.burned_anomalous_burnedTo hone' m).trans (by rw [hp]; rfl)).symm
  · rintro m rfl hm
    refine h.faultsAs (f := (·.markAnomaly)) ?_ hone ?_ ?_ (Position.markAnomaly_sameEnd _) (Position.mapUnits_cardLost ..)
    · rw [hzero]
      exact hout.trans (if_neg (by omega))
    · exact ((Position.markAnomaly_anomalous hone').trans (by rw [hp]; rfl)).symm
    · exact (congrArg Position.debt (Position.markAnomaly_anomalous hone')).trans hdebt
  · rintro n rfl hr
    refine h.faultsAs (f := fun x => x) ?_ hone ?_ hdebt (.refl _) rfl
    · rw [hzero]
      refine hout.trans ((congrArg (fun w : State => w.strike op.position) hid.symm).trans
        ((State.strike_moved ..).trans (if_pos ?_)))
      change 3 ≤ ((s.ended e op (.notTaken n)).pos op.position).retry + 1
      omega
    · exact hp.symm
  · rintro rfl hr
    refine h.faultsAs (f := fun x => x) ?_ hone ?_ hdebt (.refl _) rfl
    · rw [hzero]
      refine hout.trans ((State.strike_moved (s.ended e op .timeout) op.position (·.setDoubt) _).trans ((if_pos ?_).trans
        (State.cardFault_moved_congr _ (Position.setDoubt_debtLost _) rfl rfl rfl)))
      change 3 ≤ ((s.ended e op .timeout).pos op.position).retry + 1
      omega
    · exact hp.symm

theorem State.DueLeft.verify_rows (hop : op.op = .verify) :
    (o = .busFault ∨ o = .abandoned → s.PassesAs e op id 0 fun x => x) ∧
    (o = .checkFail ∨ o = .noCard → (s.pos op.position).card.accepted ≠ some .present → s.PassesAs e op id 0 fun x => x) ∧
    (∀ hd before, o = .read hd → (s.pos op.position).doubt = some before →
      (hd.key ≠ id.key → s.PassesAs e op id 0 fun x => x) ∧
      (hd.key = id.key → hd.counter + 1 = before →
        s.PassesAs e op id 1 fun x => { (x.burnedTo (x.remaining - 1)) with doubt := none }) ∧
      (hd.key = id.key → hd.counter = before → s.PassesAs e op id 0 fun x => { x with doubt := none })) := by
  have hp := s.ended_pos_self e op o
  have hone' : ((s.ended e op o).pos op.position).call = none ∨ ((s.ended e op o).pos op.position).recovery = none := by
    rwa [hp]
  have hkey : ((s.ended e op o).pos op.position).key = some id.key := by
    rw [hp]
    exact congrArg (Option.map fun y : CardId => y.key) h.identity
  have hout : (s.ended e op o).takeOutcome op.position op o = (s.ended e op o).verifyOutcome op.position o := by
    unfold State.takeOutcome
    rw [hop]
  have hmoved := State.moved_id (s.ended e op o) op.position
  have hzero := (s.ended e op o).acct.plusBurned_zero
  have kept (hv : (s.ended e op o).verifyOutcome op.position o = s.ended e op o) : s.PassesAs e op id 0 fun x => x := by
    refine h.passesAs_of fun hst => h.passesAs (f := fun x => x) hst (hout.trans (hv.trans ?_)) rfl (.refl _) rfl
    rw [hzero]
    exact hmoved.symm
  refine ⟨fun ho => kept ?_, fun ho hc => kept ?_, fun hd before ho hdoubt => ?_⟩
  · rcases ho with rfl | rfl <;> rfl
  · have hpresent : ((s.ended e op o).pos op.position).present = false := by
      rw [hp]
      exact decide_eq_false hc
    rcases ho with rfl | rfl <;> exact if_neg (by rw [hpresent]; nofun)
  · subst ho
    have hread := State.verifyOutcome_read (h := hd) (s := s.ended e op (.read hd)) (p := op.position)
      ((congrArg Position.doubt hp).trans hdoubt)
    refine ⟨fun hk => kept (hread.trans ?_), fun hk hn => ?_, fun hk hn => ?_⟩
    · rw [State.resolveVerify_other (by rw [hkey]; exact fun hc => hk (Option.some.inj hc).symm)]
      unfold State.otherCard
      rw [if_pos (by rw [hp]; exact h.cardLost)]
      have hleft : ((s.ended e op (.read hd)).pos op.position).cardLeft = true := by
        rw [hp]
        exact h.cardLeft
      exact (State.moved_congr (f := fun x => { x with cardLeft := true }) (g := fun x => x)
        (Position.cardLeft_set hleft) _).trans hmoved
    · refine h.passesAs_of fun hst => h.passesAs
        (f := fun x => { ({ x with doubt := none } : Position).unitBurned with
          remaining := ({ x with doubt := none } : Position).unitBurned.remaining - 1 }) hst
        (hout.trans (hread.trans ((State.resolveVerify_done (by rw [hkey, hk]) hn).trans (State.unitDone_moved ..))))
        ?_ ?_ ?_
      · exact Position.unitDone_burnedTo (x := { (s.ended e op (.read hd)).pos op.position with doubt := none }) hone'
      · exact ((Position.undoubted_sameEnd _).trans (Position.unitBurned_sameEnd _)).trans
          ⟨rfl, rfl, rfl, rfl, rfl, rfl, rfl, rfl⟩
      · exact Position.unitBurned_cardLost { (s.ended e op (.read hd)).pos op.position with doubt := none }
    · refine h.passesAs_of fun hst => h.passesAs (f := fun x => { x with doubt := none }) hst
        (hout.trans (hread.trans ((State.resolveVerify_same (by rw [hkey, hk]) hn).trans ?_))) rfl
        ⟨rfl, rfl, rfl, rfl, rfl, rfl, rfl, rfl⟩ rfl
      rw [hzero]

end

/-- Settles O24, by the rows of a BURN in METERING and those of a BURN or VERIFY whose card has left. -/
theorem burnWithoutUnitAtPosition : Obligations.BurnWithoutUnitAtPosition := by
  unfold Obligations.BurnWithoutUnitAtPosition
  refine ⟨fun s e p b n k c o hdue hs hc hline => burnWithoutUnit_metering hdue hs hc hline, ?_⟩
  rintro s e p op o id hdue rfl hlane hf hnone hlost hleft hid hone
  have h : s.DueLeft e op o id := ⟨hdue, hlane, hf, hnone, hlost, hleft, hid⟩
  exact ⟨h.burn_rows hone, h.verify_rows hone⟩

end Sys2Proof.Machine
end

section
/-!
PROOFS. A BURN that ends DONE: the unit it takes, and what the engine does next (R74, R104, R105).
-/

namespace Sys2Proof.Machine

/-! ### What arbitration after an event leaves at one engine -/

theorem State.serve_induct {P : State → Prop} {s : State} (h : P s) (step : ∀ u d, P u → P (u.arbitrate d)) :
    P s.serve :=
  List.foldlRecOn allEngines State.arbitrate h fun u hu d _ => step u d hu

/-- A grant of another engine touches neither this engine nor a position it does not serve. -/
theorem State.arbitrate_other {u : State} {d e : EngineId} (h : d ≠ e ∨ (u.eng e).op ≠ none) :
    (u.arbitrate d).eng e = u.eng e ∧ (u.arbitrate d).acct.engines[e.val] = u.acct.engines[e.val] ∧
      ∀ q, (u.pos q).pendingOp = none → (u.arbitrate d).pos q = u.pos q := by
  rcases u.arbitrate_cases d with ⟨hu, -⟩ | ⟨p, op, hfree, -, hop, hu⟩
  · rw [hu]
    exact ⟨rfl, rfl, fun _ _ => rfl⟩
  · have hne : d ≠ e := by
      rcases h with h | h
      · exact h
      · rintro rfl
        exact h ((Engine.free_iff _).mp hfree).2.2
    rw [hu, State.grant_eng, if_neg hne.symm]
    refine ⟨rfl, ?_, fun q hq => ?_⟩
    · unfold State.grant State.modCounts State.modAcct
      dsimp only
      rw [Vector.getElem_set_ne]
      · rfl
      · exact fun hv => hne (Fin.ext hv)
    · rw [State.grant_pos, if_neg]
      rintro rfl
      rw [hop] at hq
      cases hq

/-- An engine with an operation keeps it, and its position, through the arbitrations that follow. -/
theorem State.serve_of_busy {s : State} {e : EngineId} {p : PosId} (he : (s.eng e).op ≠ none)
    (hp : (s.pos p).pendingOp = none) :
    s.serve.eng e = s.eng e ∧ s.serve.acct.engines[e.val] = s.acct.engines[e.val] ∧ s.serve.pos p = s.pos p := by
  refine State.serve_induct (P := fun u => u.eng e = s.eng e ∧ u.acct.engines[e.val] = s.acct.engines[e.val] ∧
    u.pos p = s.pos p) ⟨rfl, rfl, rfl⟩ fun u d ⟨h1, h2, h3⟩ => ?_
  obtain ⟨k1, k2, k3⟩ := State.arbitrate_other (u := u) (d := d) (e := e) (.inr (by rwa [h1]))
  exact ⟨k1.trans h1, k2.trans h2, (k3 p (by rwa [h3])).trans h3⟩

/-- An engine with an operation it has just been granted, at the position that follows in its order. -/
structure State.Granted (u : State) (e : EngineId) (q : PosId) (o : EngineOp) : Prop where
  op : (u.eng e).op = some o
  position : o.position = q
  step : o.step = .select
  burst : (u.eng e).burst = 1
  pointer : (u.eng e).pointer = (readerIndex e q + 1) % busSize e
  inFlight : (u.pos q).inFlight = some { engine := e, op := o.op, discard := false }
  pendingOp : (u.pos q).pendingOp = none

theorem State.grant_granted (u : State) (e : EngineId) (p : PosId) (op : CardOp) :
    ∃ o, (u.grant e p op ((readerIndex e p + 1) % busSize e) 1).Granted e p o := by
  have he := (u.grant_eng e p op ((readerIndex e p + 1) % busSize e) 1 e).trans (if_pos rfl)
  have hp := (u.grant_pos e p op ((readerIndex e p + 1) % busSize e) 1 p).trans (if_pos rfl)
  exact ⟨_, congrArg Engine.op he, rfl, rfl, congrArg Engine.burst he, congrArg Engine.pointer he,
    congrArg Position.inFlight hp, congrArg Position.pendingOp hp⟩

/-- An idle engine stays as it is or takes a grant with a new burst. -/
theorem State.serve_of_idle {s : State} {e : EngineId} : s.serve.eng e = s.eng e ∨ ∃ q o, s.serve.Granted e q o := by
  refine State.serve_induct (P := fun u => u.eng e = s.eng e ∨ ∃ q o, u.Granted e q o) (.inl rfl) fun u d hu => ?_
  rcases hu with hu | ⟨q, o, hg⟩
  · by_cases hd : d = e
    · subst hd
      rcases u.arbitrate_cases d with ⟨hsame, -⟩ | ⟨p, op, -, -, -, hgrant⟩
      · exact .inl (by rw [hsame, hu])
      · exact .inr ⟨p, hgrant ▸ u.grant_granted d p op⟩
    · exact .inl ((State.arbitrate_other (.inl hd)).1.trans hu)
  · obtain ⟨k1, -, k3⟩ := State.arbitrate_other (u := u) (d := d) (e := e) (.inr (by rw [hg.op]; nofun))
    refine .inr ⟨q, o, ?_⟩
    have hq := k3 q hg.pendingOp
    exact ⟨k1 ▸ hg.op, hg.position, hg.step, k1 ▸ hg.burst, k1 ▸ hg.pointer, hq ▸ hg.inFlight, hq ▸ hg.pendingOp⟩

/-! ### A BURN that ends DONE -/

/-- One unit burned in a call. -/
def Position.oneBurned (c : Call) (x : Position) : Position :=
  { x with
    debt := x.debt - 1, remaining := x.remaining - 1, retry := 0
    call := some { c with units := { c.units with burned := c.units.burned + 1 } } }

theorem Position.unitBurned_oneBurned {x : Position} {c : Call} (hc : x.call = some c) :
    ({ x.unitBurned with remaining := x.unitBurned.remaining - 1 } : Position) = x.oneBurned c := by
  rw [Position.unitBurned_of_call hc]
  rfl

theorem State.ended_counts_done (s : State) (e : EngineId) (op : EngineOp) (n : Nat) :
    (s.ended e op (.done n)).acct.engines[e.val] =
      { s.acct.engines[e.val] with done := min 65535 (s.acct.engines[e.val].done + 1) } :=
  (State.modCounts_self _ e _).trans (EngineCounts.completed_eq (.done n) _)

section
variable {s : State} {e : EngineId} {p : PosId} {b n : Nat} {k : Option CardKey} {c : Call}
  (hdue : s.DueAt e p .burn b k (.done n))
include hdue

/-- The engine after a DONE is idle and otherwise as it was. -/
theorem State.DueAt.done_engine : (s.ended e (.over p .burn b k (.done n)) (.done n)).eng e = { s.eng e with op := none } := by
  have ⟨_, hreset, hlane, hdisable, _⟩ := hdue
  have hafter : (s.eng e).laneAfter (.done n) = .inService := by
    obtain ⟨-, -, -, hkept, -⟩ := Engine.laneAfter_rows hdisable (.done n)
    exact hkept nofun hlane
  unfold State.ended
  rw [State.modPos_eng, State.modCounts_eng, State.modEng_eng_self, Engine.complete]
  generalize s.eng e = g at hafter hlane hreset hdisable
  rw [hafter]
  cases g
  subst hlane hreset hdisable
  rfl

/-- The unit is taken, and nothing else follows at the position (R74). -/
theorem State.DueAt.done_completed (hs : (s.pos p).state = .metering ∨ (s.pos p).state = .lastUnit)
    (hc : (s.pos p).call = some c) :
    s.completed e (.over p .burn b k (.done n)) (.done n) =
      (s.ended e (.over p .burn b k (.done n)) (.done n)).moved p (·.oneBurned c)
        ((s.ended e (.over p .burn b k (.done n)) (.done n)).acct.plusBurned 1) := by
  have hp : (s.ended e (.over p .burn b k (.done n)) (.done n)).pos p = { s.pos p with inFlight := none } :=
    s.ended_pos_self e (.over p .burn b k (.done n)) (.done n)
  have ⟨_, _, _, _, _, hnone, hkept⟩ := hdue
  have hpos : ((s.ended e (.over p .burn b k (.done n)) (.done n)).moved p (·.oneBurned c)
      ((s.ended e (.over p .burn b k (.done n)) (.done n)).acct.plusBurned 1)).pos p =
      ({ s.pos p with inFlight := none } : Position).oneBurned c := by
    rw [State.moved_pos_self, hp]
  have hstate := congrArg Position.state hpos
  refine State.completed_of_outcome hdue.discarding hdue.laneAfter ?_ ?_ (State.settle_of_stays (.inl ⟨?_, ?_⟩)) ?_
  · refine (congrArg (fun w : State => w.unitDone p) (State.moved_id _ p).symm).trans ((State.unitDone_moved ..).trans
      (State.moved_congr (Position.unitBurned_oneBurned ?_) _))
    exact (congrArg Position.call hp).trans hc
  · exact (congrArg Position.cardLost hpos).trans hkept
  · rcases hs with hs | hs <;> exact fun hn => PosState.noConfusion (hs.symm.trans (hstate.symm.trans hn))
  · rcases hs with hs | hs <;> exact fun hn => PosState.noConfusion (hs.symm.trans (hstate.symm.trans hn))
  · exact (congrArg Position.pendingAlloc hpos).trans hnone

end

/-- The conditions under which an engine goes on with a burst (R105). -/
def State.BurstKept (s : State) (e : EngineId) (p : PosId) : Prop :=
  1 < (s.pos p).debt ∧ (s.pos p).doubt = none ∧ (s.pos p).card.accepted = some .present ∧
    (s.pos p).faulty = false ∧ engineOf p (s.pos p).allocation = e ∧ (s.eng e).burst < (s.eng e).grantLength ∧
    ∀ q ∈ s.candidates e, q ≠ p → (s.pos q).state ≠ .clearing ∧
      ((s.pos q).pendingOp = some .identify ∨ (s.pos q).debt < s.settings.urgency)

/-- The operation derived in a call is a BURN where debt without doubt is left on a card still there. -/
theorem Position.derived_eq_burn_iff {x : Position} (hs : x.state ≠ .reading) (hl : x.cardLost = false) :
    x.derived = some .burn ↔ 0 < x.debt ∧ x.doubt = none ∧ x.card.accepted = some .present ∧ x.faulty = false := by
  rw [Nat.pos_iff_ne_zero]
  unfold Position.derived Position.present
  cases hd : x.doubt <;> by_cases hp : x.card.accepted = some .present <;> cases hf : x.faulty <;> simp [hs, hl, hp]

theorem Position.urgency_ne_a_iff (threshold : Nat) (x : Position) :
    x.urgency threshold ≠ .a ↔ x.state ≠ .clearing ∧ (x.pendingOp = some .identify ∨ x.debt < threshold) := by
  unfold Position.urgency
  by_cases hs : x.state = .clearing
  · simp [hs]
  · by_cases hi : x.pendingOp = some .identify
    · simp [hs, hi]
    · simp [hs, hi]

theorem State.othersUrgent_iff (s : State) (e : EngineId) (p : PosId) :
    s.othersUrgent e p = false ↔ ∀ q ∈ s.candidates e, q ≠ p → (s.pos q).urgency s.settings.urgency ≠ .a := by
  unfold State.othersUrgent
  simp only [List.any_eq_false, bne_iff_ne, State.mem_members]
  exact ⟨fun h q hq hne ha => h q ⟨hq, ha⟩ hne, fun h q ⟨hq, ha⟩ hne => h q hq hne ha⟩

section
variable {s w : State} {e : EngineId} {p : PosId} {c : Call}
  (hother : ∀ q, q ≠ p → w.pos q = s.pos q)
  (hpos : w.pos p = (({ s.pos p with inFlight := none } : Position).oneBurned c).derive)
  (hset : w.settings = s.settings)
include hother hset

theorem State.othersUrgent_kept :
    w.othersUrgent e p = false ↔ ∀ q ∈ s.candidates e, q ≠ p → (s.pos q).state ≠ .clearing ∧
      ((s.pos q).pendingOp = some .identify ∨ (s.pos q).debt < s.settings.urgency) := by
  rw [State.othersUrgent_iff, hset]
  refine forall_congr' fun q => ?_
  by_cases hq : q = p
  · simp [hq]
  · rw [State.mem_candidates, State.mem_candidates, hother q hq, Position.urgency_ne_a_iff]

include hpos

theorem State.continues_iff (heng : w.eng e = { s.eng e with op := none }) (hlane : (s.eng e).lane = .inService)
    (hdisable : (s.eng e).disablePending = false) (hs : (s.pos p).state = .metering ∨ (s.pos p).state = .lastUnit)
    (hlost : (s.pos p).cardLost = false) : w.continues e p = true ↔ s.BurstKept e p := by
  have hderive : w.pos p = { ({ s.pos p with inFlight := none } : Position).oneBurned c with
      pendingOp := (({ s.pos p with inFlight := none } : Position).oneBurned c).derived } := by
    rw [hpos]
    exact if_neg nofun
  have hburn : (w.pos p).pendingOp = some .burn ↔ 0 < (s.pos p).debt - 1 ∧ (s.pos p).doubt = none ∧
      (s.pos p).card.accepted = some .present ∧ (s.pos p).faulty = false := by
    rw [hderive]
    refine Position.derived_eq_burn_iff (x := ({ s.pos p with inFlight := none } : Position).oneBurned c) ?_ hlost
    rcases hs with hs | hs <;> exact fun hn => PosState.noConfusion (hs.symm.trans hn)
  have halloc : (w.pos p).allocation = (s.pos p).allocation := (congrArg Position.allocation hderive).trans rfl
  have hfree : (w.eng e).free = true := by
    rw [heng, Engine.free_iff]
    exact ⟨by rw [hlane]; decide, hdisable, rfl⟩
  have hurgent := State.othersUrgent_kept (e := e) hother hset
  unfold State.continues State.BurstKept
  simp only [Bool.and_eq_true, decide_eq_true_eq, Bool.not_eq_true', hburn, halloc, hfree, hurgent, and_true, and_assoc]
  rw [heng, show 0 < (s.pos p).debt - 1 ↔ 1 < (s.pos p).debt by omega]

end

theorem State.grant_counts (s : State) (e : EngineId) (p : PosId) (op : CardOp) (pointer burst : Nat) :
    (s.grant e p op pointer burst).acct.engines[e.val] =
      { s.acct.engines[e.val] with grants := min 65535 (s.acct.engines[e.val].grants + 1) } := by
  unfold State.grant
  rw [State.modCounts_self]
  rfl

/-- The engine that keeps its position goes on with a BURN of it (R105). -/
theorem State.burst_kept {w : State} {e : EngineId} {p : PosId} (n : Nat) (h : w.continues e p = true) :
    (w.burstOn e p (.done n)).serve.eng e =
      { w.eng e with
        op := some { position := p, op := .burn, step := .select, before := (w.pos p).remaining, key := (w.pos p).key }
        burst := (w.eng e).burst + 1 } ∧
    (w.burstOn e p (.done n)).serve.acct.engines[e.val] =
      { w.acct.engines[e.val] with grants := min 65535 (w.acct.engines[e.val].grants + 1) } ∧
    ((w.burstOn e p (.done n)).serve.pos p).inFlight = some { engine := e, op := .burn, discard := false } ∧
    ((w.burstOn e p (.done n)).serve.pos p).pendingOp = none := by
  have hb : w.burstOn e p (.done n) = w.grant e p .burn (w.eng e).pointer ((w.eng e).burst + 1) := by
    unfold State.burstOn
    exact if_pos h
  have he := (w.grant_eng e p .burn (w.eng e).pointer ((w.eng e).burst + 1) e).trans (if_pos rfl)
  have hp := (w.grant_pos e p .burn (w.eng e).pointer ((w.eng e).burst + 1) p).trans (if_pos rfl)
  rw [← hb] at he hp
  obtain ⟨k1, k2, k3⟩ := State.serve_of_busy (s := w.burstOn e p (.done n)) (e := e) (p := p) (by rw [he]; nofun)
    (congrArg Position.pendingOp hp)
  have hp' := k3.trans hp
  refine ⟨k1.trans he, k2.trans ?_, congrArg Position.inFlight hp', congrArg Position.pendingOp hp'⟩
  rw [hb, State.grant_counts]

/-- The engine whose burst is over serves its candidates anew (R104, R105). -/
theorem State.burst_over {w : State} {e : EngineId} {p : PosId} (n : Nat) (h : w.continues e p = false) :
    (w.burstOn e p (.done n)).serve.eng e = { w.eng e with burst := 0 } ∨
      ∃ q o, (w.burstOn e p (.done n)).serve.Granted e q o := by
  have hb : w.burstOn e p (.done n) = w.modEng e fun g => { g with burst := 0 } := by
    unfold State.burstOn
    exact if_neg (by rw [h]; nofun)
  refine (State.serve_of_idle (s := w.burstOn e p (.done n)) (e := e)).imp_left fun he => he.trans ?_
  rw [hb, State.modEng_eng_self]

/-- Settles O23: the unit at the position, then the continuation of the burst or a new grant. -/
theorem burnDoneTakesOneUnit : Obligations.BurnDoneTakesOneUnit := by
  unfold Obligations.BurnDoneTakesOneUnit
  intro s e p b n k c hdue hs hc
  obtain ⟨u, hu⟩ : ∃ u, u = s.ended e (.over p .burn b k (.done n)) (.done n) := ⟨_, rfl⟩
  have hup (q : PosId) : u.pos q = if q = p then { s.pos p with inFlight := none } else s.pos q := by
    rw [hu]
    exact s.ended_pos e (.over p .burn b k (.done n)) (.done n) q
  have heng : u.eng e = { s.eng e with op := none } := hu ▸ hdue.done_engine
  have hcounts : u.acct.engines[e.val] =
      { s.acct.engines[e.val] with done := min 65535 (s.acct.engines[e.val].done + 1) } :=
    hu ▸ s.ended_counts_done e _ n
  have hcompleted := hdue.done_completed hs hc
  rw [← hu] at hcompleted
  obtain ⟨v, hv⟩ : ∃ v, v = u.moved p (·.oneBurned c) (u.acct.plusBurned 1) := ⟨_, rfl⟩
  have hgrants := s.complete_upToGrants e (.over p .burn b k (.done n)) (.done n)
  have ht : s.complete e (.over p .burn b k (.done n)) (.done n) = ((v.derive p).burstOn e p (.done n)).serve := by
    rw [hv, ← hcompleted]
    rfl
  rw [hcompleted, ← hv] at hgrants
  have hvp : v.pos p = ({ s.pos p with inFlight := none } : Position).oneBurned c := by
    rw [hv, State.moved_pos_self, hup, if_pos rfl]
  have hvq (q : PosId) (hq : q ≠ p) : v.pos q = s.pos q := by
    rw [hv, State.moved_pos_ne _ _ _ _ hq, hup, if_neg hq]
  have ⟨_, _, hlane, hdisable, _, _, hlost⟩ := hdue
  obtain ⟨w, hw⟩ : ∃ w, w = v.derive p := ⟨_, rfl⟩
  have hwp : w.pos p = (({ s.pos p with inFlight := none } : Position).oneBurned c).derive := by
    rw [hw, State.derive, State.modPos_pos_self, hvp]
  have hwq (q : PosId) (hq : q ≠ p) : w.pos q = s.pos q := by
    rw [hw, State.derive, State.modPos_pos_ne _ hq, hvq q hq]
  have hwe : w.eng e = { s.eng e with op := none } := by
    rw [← heng, hw, hv]
    rfl
  have hwc : w.acct.engines[e.val] = u.acct.engines[e.val] := by
    rw [hw, hv]
    rfl
  have hcont := State.continues_iff hwq hwp (by rw [hw, hv, hu]; rfl) hwe hlane hdisable hs hlost
  have hderive : w.pos p = { ({ s.pos p with inFlight := none } : Position).oneBurned c with
      pendingOp := (({ s.pos p with inFlight := none } : Position).oneBurned c).derived } := by
    rw [hwp]
    exact if_neg nofun
  rw [← hw] at ht
  refine ⟨_, exec_completion hdue.due, ?_⟩
  generalize s.complete e (.over p .burn b k (.done n)) (.done n) = t at ht hgrants
  obtain ⟨hpos, -, -, hrest⟩ := hgrants
  have hframe : t = { s with
      positions := t.positions, engines := t.engines
      acct := { s.acct.plusBurned 1 with engines := t.acct.engines } } := by
    rw [hv, hu] at hrest
    exact hrest
  refine ⟨congrArg (·.acct.totals) hframe, ?_, fun q hq => ?_, by rw [hframe], by rw [hframe],
    by rw [hframe], by rw [hframe], by rw [hframe], by rw [hframe], congrArg (·.acct.global) hframe, fun hkept => ?_, fun hkept => ?_⟩
  · have := hpos p
    rwa [hvp] at this
  · have := hpos q
    rwa [hvq q hq] at this
  · obtain ⟨k1, k2, k3, k4⟩ := State.burst_kept n (hcont.mpr hkept)
    rw [ht]
    refine ⟨?_, k3, k4, ?_⟩
    · rw [k1, hwe, hderive]
      rfl
    · rw [k2, hwc, hcounts]
  · rw [ht]
    rcases State.burst_over n (Bool.eq_false_iff.mpr fun h => hkept (hcont.mp h)) with k | ⟨q, o, k⟩
    · left
      rw [k, hwe]
      exact ⟨rfl, rfl, rfl⟩
    · exact .inr ⟨q, o, k.op, k.position, k.step, k.burst, k.pointer, k.inFlight⟩

end Sys2Proof.Machine
end

section
/-!
PROOFS. The finish of CLEARING, test by test, and the CLEAR_WAIT expiry that brings it (R11, R35, R36).
-/

namespace Sys2Proof.Machine

/-! ### The tests of R36 -/

section
variable {s : State} {p : PosId}

theorem State.finishClearing_blocked (hb : (s.pos p).blockPending = true) :
    s.finishClearing p = (s.closeCall p).modPos p (·.arriveBlocked) := by
  unfold State.finishClearing
  exact if_pos hb

variable (hb : (s.pos p).blockPending = false)
include hb

theorem State.finishClearing_left (hl : (s.pos p).cardLeft = true ∨ (s.pos p).card.accepted ≠ some .present) :
    s.finishClearing p = (s.closeCall p).modPos p (·.arriveVacant) := by
  unfold State.finishClearing
  dsimp only
  rw [if_neg (by rw [hb]; nofun), if_pos]
  rcases hl with hl | hl
  · simp [hl]
  · simp [Position.present, hl]

variable (hleft : (s.pos p).cardLeft = false) (hpres : (s.pos p).card.accepted = some .present)
include hleft hpres

theorem State.finishClearing_faulty (hf : (s.pos p).faulty = true) :
    s.finishClearing p = (s.closeCall p).modPos p (·.arriveRefused .faulty) := by
  unfold State.finishClearing Position.present
  simp only [hb, hleft, hpres, hf]
  rfl

variable (hf : (s.pos p).faulty = false)
include hf

/-- A card still there that is not faulty: the tests on what is known of it. -/
theorem State.finishClearing_held :
    s.finishClearing p =
      if (s.closeCall p).listed (s.pos p) then (s.closeCall p).enterRecovering p
      else if (s.pos p).identity = none ∧ (s.pos p).profile = .card then (s.closeCall p).modPos p (·.startReading)
      else if (s.pos p).identity = none then (s.closeCall p).modPos p (·.arriveVacant)
      else if (s.pos p).remaining = 0 then (s.closeCall p).modPos p (·.arriveRefused .empty)
      else (s.closeCall p).modPos p (·.arriveReadyUnlisted) := by
  unfold State.finishClearing Position.present
  simp [hb, hleft, hpres, hf]

end

/-! ### The CLEAR_WAIT expiry -/

/-- The line part of clearing done. -/
def Position.lineDone (x : Position) : Position := { x with forcedClear := false, oneShot := x.oneShot.stop }

theorem Position.lineDone_rested (st : PosState) (x : Position) : x.lineDone.rested st = x.rested st := rfl

theorem Position.lineDone_vacated (x : Position) : x.lineDone.vacated = x.vacated := rfl

theorem Position.lineDone_refusedWith (why : RefusalCause) (x : Position) :
    x.lineDone.refusedWith why = x.refusedWith why := rfl

theorem Position.arriveReadyUnlisted_eq {x : Position} (h : x.blockPending = false) :
    x.arriveReadyUnlisted = x.rested .ready := by
  unfold Position.arriveReadyUnlisted
  rw [if_neg (by rw [h]; nofun), Position.enter_eq_rested rfl rfl]

theorem Position.startReading_eq (x : Position) : x.startReading = { (x.rested .reading) with retry := 0 } := by
  unfold Position.startReading
  rw [Position.enter_eq_rested rfl rfl]

theorem Position.vacated_of_bare {x : Position} (hb : x.blockPending = false) (hp : x.profile ≠ .card) :
    x.vacated = x.cardless.rested .vacant := by
  unfold Position.vacated
  rw [if_neg (by rw [hb]; nofun), if_neg fun hc => hp hc.2]

theorem exec_clearWaitExpiry {s : State} {p : PosId} (h : (s.pos p).oneShot = { kind := .clearWait, count := 0 }) :
    exec (.clearWaitExpiry p) s = .next ((s.modPos p (·.lineDone)).conclude p) := by
  change execClearWaitExpiry p s = _
  unfold execClearWaitExpiry Position.oneShotDue
  rw [h]
  rfl

theorem State.finish_clearing {s : State} {p : PosId} (hs : (s.pos p).state = .clearing)
    (hforced : (s.pos p).forcedClear = false) (hpaid : (s.pos p).Paid) (hf : (s.pos p).inFlight = none) :
    (s.finishClearing p).UpToGrants (s.conclude p) := by
  have hdone : (s.pos p).clearingDone = true := by
    simp [Position.clearingDone, hs, hforced, hpaid.debt, hpaid.doubt, hpaid.cardLost, hf]
  have h := s.conclude_upToGrants p
  unfold State.settle at h
  dsimp only at h
  rwa [if_pos hdone] at h

/-- The call whose line part is done has its record written. -/
def State.closed (s : State) (p : PosId) (c : Call) (why : EndCause) : State :=
  (s.recorded (c.written p (s.pos p).key s.queue.nextSequence why)).modPos p fun x =>
    { x with call := none, reservation := false }

theorem State.recorded_modPos (s : State) (r : CallRecord) (p : PosId) (f : Position → Position) :
    (s.modPos p f).recorded r = (s.recorded r).modPos p f := rfl

section
variable {s : State} {p : PosId} {c : Call} {why : EndCause}

theorem State.closed_pos_self : (s.closed p c why).pos p = { s.pos p with call := none, reservation := false } :=
  State.modPos_pos_self ..

theorem State.closeCall_lineDone (hc : (s.pos p).call = some c) (hw : c.endCause = some why) :
    (s.modPos p (·.lineDone)).closeCall p = (s.closed p c why).modPos p (·.lineDone) := by
  have hp := s.modPos_pos_self p (·.lineDone)
  have hc' : ((s.modPos p (·.lineDone)).pos p).call = some c := (congrArg Position.call hp).trans hc
  have hkey : ((s.modPos p (·.lineDone)).pos p).key = (s.pos p).key := congrArg (fun x => x.identity.map (·.key)) hp
  rw [State.closeCall_eq hc' hw, hkey]
  unfold State.closed
  rw [State.recorded_modPos, State.modPos_modPos, State.modPos_modPos]
  rfl

/-- A record takes the place its reservation held (R138). -/
theorem State.closed_places (h : (s.pos p).reservation = true) :
    (s.closed p c why).queue.records.length + (s.closed p c why).reservations =
      s.queue.records.length + s.reservations := by
  have hsum := sum_pos_change (s := s) (t := s.closed p c why) (p := p) Position.places fun q hq =>
    congrArg Position.places (State.modPos_pos_ne _ hq _)
  rw [← State.reservations_eq_sum, ← State.reservations_eq_sum, State.closed_pos_self] at hsum
  have hlen : (s.closed p c why).queue.records.length = s.queue.records.length + 1 := by
    unfold State.closed State.recorded
    simp
  simp only [Position.places, h] at hsum
  simp at hsum
  omega

theorem State.closed_tearEntry (k : CardKey) : (s.closed p c why).tearEntry k = s.tearEntry k := rfl

end

/-- Settles O9: the tests of R36 at the call whose record has been written; with debt left the clearing goes on. -/
theorem clearWaitExpiryEndsLinePart : Obligations.ClearWaitExpiryEndsLinePart := by
  unfold Obligations.ClearWaitExpiryEndsLinePart
  intro s p c why hs hshot hc hw
  have hexec := exec_clearWaitExpiry hshot
  obtain ⟨s1, hs1⟩ : ∃ s1, s1 = s.modPos p (·.lineDone) := ⟨_, rfl⟩
  have hp1 : s1.pos p = (s.pos p).lineDone := by rw [hs1, State.modPos_pos_self]
  have hs1' : (s1.pos p).state = .clearing := (congrArg Position.state hp1).trans hs
  rw [← hs1] at hexec
  refine ⟨fun hdebt hdoubt hlost hf => ?_, fun hdebt => ?_⟩
  · intro u goes bp left held bare
    have hclose : s1.closeCall p = u.modPos p (·.lineDone) := hs1 ▸ State.closeCall_lineDone hc hw
    have hfin := State.finish_clearing hs1' (by rw [hp1]; rfl)
      ⟨(congrArg Position.debt hp1).trans hdebt, (congrArg Position.doubt hp1).trans hdoubt,
        (congrArg Position.cardLost hp1).trans hlost⟩ ((congrArg Position.inFlight hp1).trans hf)
    have goes_of {U : State} (h : s1.finishClearing p = U) : goes U := ⟨_, hexec, h ▸ hfin⟩
    have moves {F G : Position → Position} (h : s1.finishClearing p = (s1.closeCall p).modPos p F)
        (hFG : F (u.pos p).lineDone = G (u.pos p)) : goes (u.modPos p G) := by
      refine goes_of (h.trans ?_)
      rw [hclose, State.modPos_modPos]
      exact State.modPos_congr hFG
    have hup : u.pos p = { s.pos p with call := none, reservation := false } := State.closed_pos_self
    have hbu (hb : bp = false) : (u.pos p).lineDone.blockPending = false := by
      rw [hup]
      exact hb
    have hb1 (hb : bp = false) : (s1.pos p).blockPending = false := by rw [hp1]; exact hb
    have here (hl : ¬left) : (s1.pos p).cardLeft = false ∧ (s1.pos p).card.accepted = some .present := by
      rw [hp1]
      obtain ⟨h1, h2⟩ := not_or.mp hl
      exact ⟨Bool.eq_false_iff.mpr h1, Classical.not_not.mp h2⟩
    have hfaulty (hf : (s.pos p).faulty = false) : (s1.pos p).faulty = false := by rw [hp1]; exact hf
    have heldEq (hb : bp = false) (hl : ¬left) (hf : (s.pos p).faulty = false) :=
      State.finishClearing_held (hb1 hb) (here hl).1 (here hl).2 (hfaulty hf)
    have hid1 : (s1.pos p).identity = (s.pos p).identity := (congrArg Position.identity hp1).trans rfl
    have hprof1 : (s1.pos p).profile = (s.pos p).profile := (congrArg Position.profile hp1).trans rfl
    have hrem1 : (s1.pos p).remaining = (s.pos p).remaining := (congrArg Position.remaining hp1).trans rfl
    have hlisted {id : CardId} (hid : (s.pos p).identity = some id) :
        (s1.closeCall p).listed (s1.pos p) = (s.tearEntry id.key).isSome := by
      rw [State.listed_of_key (k := id.key) (congrArg (Option.map fun y : CardId => y.key) (hid1.trans hid)), hclose]
      rfl
    have bareEq (hh : bare) : s1.finishClearing p =
        if (s.pos p).profile = .card then (s1.closeCall p).modPos p (·.startReading)
        else (s1.closeCall p).modPos p (·.arriveVacant) := by
      obtain ⟨hb, hl, hf, hid⟩ := hh
      have hnot : (s1.closeCall p).listed (s1.pos p) = false := by
        unfold State.listed Position.key
        rw [hid1, hid]
        rfl
      rw [heldEq hb hl hf, hnot, hid1, hid, hprof1]
      simp
    have unlistedEq {id : CardId} (hh : held id) (ht : s.tearEntry id.key = none) : s1.finishClearing p =
        if (s.pos p).remaining = 0 then (s1.closeCall p).modPos p (·.arriveRefused .empty)
        else (s1.closeCall p).modPos p (·.arriveReadyUnlisted) := by
      obtain ⟨hb, hl, hf, hid⟩ := hh
      rw [heldEq hb hl hf, hlisted hid, ht, hid1, hid, hrem1]
      simp
    refine ⟨fun hb => ?_, fun hb hl => ?_, fun hb hl hf => ?_, fun id t0 hh ht hres => ?_, fun hh hprof => ?_,
      fun hh hprof => ?_, fun id hh ht hr => ?_, fun id hh ht hr => ?_⟩
    · exact moves (State.finishClearing_blocked (by rw [hp1]; exact hb)) (Position.arriveBlocked_eq _)
    · refine moves (State.finishClearing_left (hb1 hb) ?_) (Position.arriveVacant_eq _)
      rw [hp1]
      exact hl
    · refine moves (State.finishClearing_faulty (hb1 hb) (here hl).1 (here hl).2 ?_)
        (Position.arriveRefused_eq (hbu hb) _)
      rw [hp1]
      exact hf
    · obtain ⟨hb, hl, hf, hid⟩ := hh
      have heq : s1.finishClearing p = (u.modPos p (·.lineDone)).enterRecovering p := by
        rw [heldEq hb hl hf, hlisted hid, ht, ← hclose]
        exact if_pos rfl
      have hplaces : (u.modPos p (·.lineDone)).queue.records.length + (u.modPos p (·.lineDone)).reservations =
          s.queue.records.length + s.reservations := by
        rw [State.reservations_modPos (s := u) (f := Position.lineDone) rfl]
        exact State.closed_places hres
      refine ⟨fun hfull => ?_, fun hroom hdebt0 => ?_⟩
      · refine goes_of (heq.trans ((State.enterRecovering_waits (Nat.le_of_eq (hplaces.trans hfull).symm)).trans ?_))
        rw [State.modPos_modPos]
        exact State.modPos_congr (Position.lineDone_rested _ _)
      · have hkey : ((u.modPos p (·.lineDone)).pos p).key = some id.key := by
          rw [State.modPos_pos_self, hup]
          exact congrArg (Option.map fun y : CardId => y.key) hid
        have hrem : ((u.modPos p (·.lineDone)).pos p).remaining = (s.pos p).remaining := by
          rw [State.modPos_pos_self, hup]
          rfl
        rw [Position.owing_debt] at hdebt0
        refine goes_of (heq.trans ((State.enterRecovering_goesOn (hplaces ▸ hroom) hkey (t0 := t0) ht
          (hrem ▸ hdebt0)).trans ?_))
        rw [State.modPos_modPos]
        rfl
    · exact moves ((bareEq hh).trans (if_pos hprof)) (Position.startReading_eq _)
    · have ⟨hb, _⟩ := hh
      refine moves ((bareEq hh).trans (if_neg hprof)) ((Position.arriveVacant_eq _).trans
        (Position.vacated_of_bare (hbu hb) ?_))
      rw [hup]
      exact hprof
    · have ⟨hb, _⟩ := hh
      exact moves ((unlistedEq hh ht).trans (if_pos hr)) (Position.arriveRefused_eq (hbu hb) _)
    · have ⟨hb, _⟩ := hh
      exact moves ((unlistedEq hh ht).trans (if_neg (Nat.ne_of_gt hr))) (Position.arriveReadyUnlisted_eq (hbu hb))
  · refine ⟨_, hexec, ?_⟩
    have hset : s1.settle p = s1 := s1.settle_of_clearing p hs1' (.inr (.inl ?_))
    · have h := State.conclude_of_settled hset
      rw [hs1] at h ⊢
      rw [State.modPos_congr (g := Position.lineDone)]
      · exact h
      · unfold Position.lineDone OneShot.stop
        rw [hshot]
    · rw [hp1]
      exact Nat.ne_of_gt hdebt

end Sys2Proof.Machine
end

section
/-!
PROOFS. The tear list takes what a position owes (R117, R121 to R124), and the withdrawal of a card in each state (R117 to
R119).
-/

namespace Sys2Proof.Machine

/-! ### Debt passed as a creation request -/

/-- What is owed where a card is known is one creation request (R117). -/
theorem State.passDebt_of_owing {s : State} {p : PosId} {id : CardId} (hid : (s.pos p).identity = some id)
    (hone : (s.pos p).call = none ∨ (s.pos p).recovery = none)
    (howes : 0 < (s.pos p).debt ∨ (s.pos p).doubt ≠ none) :
    let d := if (s.pos p).doubt = none then 0 else 1
    s.passDebt p =
      (s.modPos p fun x =>
        { (x.counting fun u => { u with owedOut := u.owedOut + (x.debt - d), doubtOut := u.doubtOut + d }) with
          debt := 0, doubt := none, cardLost := false }).createEntry
        { key := id.key, face := id.face, owed := (s.pos p).debt - d, inDoubt := (s.pos p).doubt, origin := p,
          stamp := s.link.stamp } := by
  intro d
  have hd : (if (s.pos p).doubt.isSome then 1 else 0) = d := by
    simp only [d]
    cases (s.pos p).doubt <;> rfl
  unfold State.passDebt
  dsimp only
  rw [hid]
  dsimp only
  rw [if_neg, hd]
  · refine congrArg (fun u : State => u.createEntry _) (State.modPos_congr ?_)
    rw [Position.counting_eq hone]
  · simp only [Bool.and_eq_true, decide_eq_true_eq, Option.isNone_iff_eq_none]
    rintro ⟨h1, h2⟩
    rcases howes with h | h
    · omega
    · exact h h2

/-! ### The creation of an entry -/

/-- A position in READY that holds a listed card takes the notice of it (R129). -/
def Position.noticed (k : CardKey) (x : Position) : Position :=
  if x.state = .ready ∧ x.key = some k then { x with notice := some k } else x

theorem State.handNotices_eq (s : State) (k : CardKey) : s.handNotices k = s.mapPos fun _ x => x.noticed k := by
  unfold State.handNotices
  refine State.mapPos_congr fun q => ?_
  unfold Position.noticed
  simp

theorem State.mapPos_modTear (s : State) (f : TearList → TearList) (g : PosId → Position → Position) :
    (s.modTear f).mapPos g = { (s.mapPos g) with tear := f s.tear } := by
  unfold State.mapPos
  rfl

theorem State.mapPos_mapPos (s : State) (f g : PosId → Position → Position) :
    (s.mapPos f).mapPos g = s.mapPos fun q x => g q (f q x) := by
  have h : (fun q => g q ((s.mapPos f).pos q)) = fun q => g q (f q (s.pos q)) := funext fun q => by rw [State.mapPos_pos]
  unfold State.mapPos at h ⊢
  rw [h]

theorem State.mapPos_appendEntry (s : State) (t : TearEntry) (f : PosId → Position → Position) :
    (s.appendEntry t).mapPos f = (s.mapPos f).appendEntry t := by
  unfold State.mapPos
  rfl

theorem State.createEntry_new {s : State} {n : TearEntry} (hn : s.tearEntry n.key = none)
    (hlen : s.tear.entries.length < 32) :
    s.createEntry n =
      { (s.mapPos fun _ x => x.noticed n.key) with tear := { s.tear with entries := s.tear.entries ++ [n] } } := by
  rw [State.createEntry_of_new hn hlen, State.handNotices_eq]
  exact State.mapPos_modTear s _ _

theorem TearEntry.merge_eq (old n : TearEntry) :
    old.merge n =
      { n with
        owed := old.owed + n.owed + if old.inDoubt ≠ none ∧ n.inDoubt ≠ none then 1 else 0
        inDoubt := if old.inDoubt = none then n.inDoubt else old.inDoubt } := by
  unfold TearEntry.merge
  cases old.inDoubt <;> cases n.inDoubt <;> rfl

theorem State.createEntry_merged {s : State} {n old : TearEntry} (hold : s.tearEntry n.key = some old) :
    let owed := old.owed + n.owed + if old.inDoubt ≠ none ∧ n.inDoubt ≠ none then 1 else 0
    s.createEntry n =
      { (s.mapPos fun _ x => x.noticed n.key) with
        tear :=
          { s.tear with
            entries := (s.tear.entries.filter fun x => x.key ≠ n.key) ++
              [{ n with
                 owed := min 8 owed, inDoubt := if old.inDoubt = none then n.inDoubt else old.inDoubt }] }
        acct := s.acct.plusWrittenOff (owed - 8) } := by
  intro owed
  rw [State.createEntry_of_listed hold, State.handNotices_eq]
  unfold State.mergeEntry
  dsimp only
  rw [TearEntry.merge_eq]
  unfold State.mapPos
  rfl

theorem State.createEntry_evicting {s : State} {n oldest : TearEntry} {rest : List TearEntry}
    (hn : s.tearEntry n.key = none) (he : s.tear.entries = oldest :: rest) (hlen : 32 ≤ s.tear.entries.length) :
    let d := if oldest.inDoubt = none then 0 else 1
    s.createEntry n =
      { (s.mapPos fun _ x => (x.released oldest.key).noticed n.key) with
        tear :=
          { entries := rest ++ [n]
            lastEviction := some
              { key := oldest.key, owed := oldest.owed, inDoubt := d, stamp := s.link.stamp } }
        acct :=
          { (s.acct.plusWrittenOff (oldest.owed + d)) with
            global := { s.acct.global with evictions := min 65535 (s.acct.global.evictions + 1) } }
        link := { s.link with tearEvicted := true } } := by
  intro d
  have hd : (if oldest.inDoubt.isSome then 1 else 0) = d := by
    simp only [d]
    cases oldest.inDoubt <;> rfl
  rw [State.createEntry_of_full hn he hlen, State.handNotices_eq]
  unfold State.evict
  dsimp only
  rw [State.releaseWaiters_eq, TearEntry.total, hd, State.mapPos_appendEntry, State.mapPos_mapPos,
    show rest = s.tear.entries.tail by rw [he]; rfl]
  unfold State.mapPos
  rfl

end Sys2Proof.Machine
end

section
/-!
PROOFS. The withdrawal of a card, state by state (R18, R23, R33, R117 to R119).
-/

namespace Sys2Proof.Machine

/-! ### What an event leaves at a position -/

/-- Arbitrations pass over a position without a pending operation. -/
theorem State.serve_pos_of_none {s : State} {p : PosId} (h : (s.pos p).pendingOp = none) : s.serve.pos p = s.pos p := by
  refine State.serve_induct (P := fun u => u.pos p = s.pos p) rfl fun u d hu => ?_
  rcases u.arbitrate_cases d with ⟨hsame, -⟩ | ⟨q, op, -, -, hop, hgrant⟩
  · rw [hsame, hu]
  · rw [hgrant, State.grant_pos, if_neg, hu]
    rintro rfl
    rw [hu, h] at hop
    cases hop

/-- An event leaves an operation in flight to run on. -/
theorem State.conclude_running {s : State} {p : PosId} (hset : s.settle p = s) (hf : (s.pos p).inFlight ≠ none)
    (hop : (s.pos p).pendingOp = none) : (s.conclude p).pos p = s.pos p := by
  have hderive : (s.derive p).pos p = s.pos p := by
    rw [State.derive, State.modPos_pos_self]
    exact if_pos (Option.isSome_iff_ne_none.mpr hf)
  unfold State.conclude
  rw [hset, State.serve_pos_of_none (by rw [hderive]; exact hop), hderive]

section
variable {u : State} {p : PosId} (hs : (u.pos p).state = .clearing)
include hs

theorem State.passDebt_pos_clearing : (u.passDebt p).pos p = (u.pos p).passed :=
  State.passDebt_pos (by rw [hs]; nofun)

/-- A clearing that waits for its line goes on once its debt is passed. -/
theorem State.conclude_passed_waiting (hforced : (u.pos p).forcedClear = true) :
    (u.passDebt p).UpToGrants ((u.passDebt p).conclude p) := by
  have hsame := (u.pos p).passed_sameEnd
  rw [← State.passDebt_pos_clearing hs] at hsame
  exact State.conclude_of_settled (State.settle_of_clearing _ p (hsame.state.trans hs) (.inl (hsame.forcedClear.trans hforced)))

/-- A clearing whose line part is done finishes without its card once its debt is passed (R35, R117). -/
theorem State.conclude_passed_done {c : Call} {why : EndCause} (hforced : (u.pos p).forcedClear = false)
    (hid : (u.pos p).identity ≠ none) (hf : (u.pos p).inFlight = none) (hleft : (u.pos p).cardLeft = true)
    (hc : (u.pos p).call = some c) (hw : c.endCause = some why) :
    ∃ c', ((u.passDebt p).pos p).call = some c' ∧
      (((u.passDebt p).recorded (c'.written p (u.pos p).key u.queue.nextSequence why)).modPos p fun x =>
        ({ x with call := none, reservation := false } : Position).vacated).UpToGrants ((u.passDebt p).conclude p) := by
  have hpos := State.passDebt_pos_clearing hs
  have hsame := (u.pos p).passed_sameEnd
  have hpaid := Position.passed_paid hid
  rw [← hpos] at hsame hpaid
  obtain ⟨c', hc', hw'⟩ : ∃ c', ((u.passDebt p).pos p).call = some c' ∧ c'.endCause = some why := by
    have : ((u.passDebt p).pos p).call.map (·.endCause) = some (some why) := hsame.endCause.trans (by rw [hc, ← hw]; rfl)
    simpa using this
  have hset := State.settle_of_left (hsame.state.trans hs) (hsame.forcedClear.trans hforced) hpaid
    (hsame.inFlight.trans hf) (hsame.cardLeft.trans hleft) hc' hw'
  have hkey : ((u.passDebt p).pos p).key = (u.pos p).key := congrArg (Option.map fun y : CardId => y.key) hsame.identity
  have h := (u.passDebt p).conclude_upToGrants p
  rw [hset, hkey, State.passDebt_queue] at h
  exact ⟨c', hc', h⟩

end

/-- A position whose card is lost under an operation waits for its completion (R119). -/
theorem State.conclude_lost {u : State} {p : PosId} {f : Position → Position} (hlost : (f (u.pos p)).cardLost = true) :
    (u.modPos p f).UpToGrants ((u.modPos p f).conclude p) := by
  refine State.conclude_of_settled ?_
  unfold State.settle Position.clearingDone Position.recoveryDone
  rw [State.modPos_pos_self]
  dsimp only
  rw [hlost]
  simp

/-- Two moves of one position that differ by its operation. -/
theorem State.modPos_upToGrants (s : State) (p : PosId) {f g : Position → Position}
    (h : (f (s.pos p)).SameButOp (g (s.pos p))) : (s.modPos p f).UpToGrants (s.modPos p g) := by
  refine ⟨fun q => ?_, fun e => rfl, fun e => rfl, rfl⟩
  rw [State.modPos_pos, State.modPos_pos]
  split
  · exact h
  · exact .refl _

theorem State.conclude_vacated {w : State} {p : PosId} {x : Position} (hw : w.pos p = x.vacated) :
    w.UpToGrants (w.conclude p) := by
  obtain ⟨h1, h2, -⟩ := x.vacated_place
  exact State.conclude_of_other (by rw [hw]; exact h1) (by rw [hw]; exact h2)

/-! ### The withdrawal in each state -/

/-- A position whose card has left. -/
def Position.gone (x : Position) : Position := { x with card := .acceptedAt .absent, cardLeft := true }

theorem Position.vacated_op (x : Position) : x.vacated.inFlight = x.inFlight ∧ x.vacated.pendingOp = x.pendingOp := by
  unfold Position.vacated
  split
  · exact ⟨rfl, rfl⟩
  · split <;> exact ⟨rfl, rfl⟩

/-- The discard mark is on the operation alone. -/
theorem Position.gone_discarding (x : Position) :
    x.gone.vacated.SameButOp ({ x with card := .acceptedAt .absent } : Position).discardIdentify.vacated := by
  unfold Position.vacated
  change Position.SameButOp (if x.blockPending = true then _ else if _ then _ else _)
    (if x.blockPending = true then _ else if _ then _ else _)
  by_cases hb : x.blockPending = true
  · rw [if_pos hb, if_pos hb]
    rfl
  · rw [if_neg hb, if_neg hb, if_neg (fun hc => nomatch hc.1), if_neg (fun hc => nomatch hc.1)]
    rfl

section
variable {s : State} {p : PosId} (hfrozen : (s.pos p).frozen = false)
  (hpres : (s.pos p).card.accepted = some .present) (hc : Input.Completes s.depths.card .absent (s.pos p).card)
include hfrozen hpres hc

theorem exec_withdrawal :
    exec (.inputSample p (.card .absent)) s =
      .next (((s.modPos p fun x => { x with card := .acceptedAt .absent }).cardLeaves p).conclude p) := by
  rw [exec_card_accepted hfrozen hc, hpres]
  rfl

/-- What the withdrawal makes of the state, before the operations that follow. -/
theorem withdrawal_answers {u v : State}
    (h : (s.modPos p fun x => { x with card := .acceptedAt .absent }).cardLeaves p = v)
    (hu : u.UpToGrants (v.conclude p)) :
    ∃ t, exec (.inputSample p (.card .absent)) s = .next t ∧ u.UpToGrants t :=
  ⟨_, exec_withdrawal hfrozen hpres hc, h ▸ hu⟩

end

section
variable {s : State} {p : PosId}

theorem State.withdrawn_state {st : PosState} (h : (s.pos p).state = st) :
    ((s.modPos p fun x => { x with card := .acceptedAt .absent }).pos p).state = st := by
  rw [State.modPos_pos_self]
  exact h

theorem State.cardLeaves_empty (h : (s.pos p).state ∈ [.vacant, .blocked]) : s.cardLeaves p = s := by
  unfold State.cardLeaves
  simp only [List.mem_cons, List.not_mem_nil, or_false] at h
  rcases h with h | h <;> rw [h]

theorem State.cardLeaves_held (h : (s.pos p).state ∈ [.refused, .ready]) :
    s.cardLeaves p = s.modPos p (·.arriveVacant) := by
  unfold State.cardLeaves
  simp only [List.mem_cons, List.not_mem_nil, or_false] at h
  rcases h with h | h <;> rw [h]

theorem State.cardLeaves_metered (h : (s.pos p).state ∈ [.routed, .metering, .lastUnit]) :
    s.cardLeaves p =
      (s.moved p (fun x => ({ x with cardLeft := true } : Position).inClearing s.settings.clearWait s.link.stamp
        .cardWithdrawn)
        { s.acct with global :=
          { s.acct.global with withdrawals := min 65535 (s.acct.global.withdrawals + 1) } }).passOrLose p := by
  have hb : s.cardLeaves p = ((((s.modGlobal fun g => { g with withdrawals := saturate g.withdrawals 1 }).modPos p fun x =>
      { x with cardLeft := true }).endCall p .cardWithdrawn).passOrLose p) := by
    unfold State.cardLeaves
    simp only [List.mem_cons, List.not_mem_nil, or_false] at h
    rcases h with h | h | h <;> rw [h]
  rw [hb, State.endCall_eq, State.modPos_modPos]
  rfl

theorem State.cardLeaves_recovering (h : (s.pos p).state = .recovering) :
    s.cardLeaves p =
      if (s.pos p).reservation = false then (s.modPos p fun x => { x with cardLeft := true }).modPos p (·.arriveVacant)
      else if (s.pos p).inFlight ≠ none then
        (s.modPos p fun x => { x with cardLeft := true }).modPos p fun x => { x with cardLost := true }
      else (s.modPos p fun x => { x with cardLeft := true }).loseRecovery p := by
  unfold State.cardLeaves Position.waiting
  rw [h]
  cases (s.pos p).reservation with
  | false => rfl
  | true => cases (s.pos p).inFlight <;> rfl

theorem State.passOrLose_idle (h : (s.pos p).inFlight = none) : s.passOrLose p = s.passDebt p := by
  unfold State.passOrLose
  rw [if_neg (by rw [h]; nofun)]

theorem State.passOrLose_running (h : (s.pos p).inFlight ≠ none) :
    s.passOrLose p = s.modPos p fun x => { x with cardLost := true } := by
  unfold State.passOrLose
  rw [if_pos (Option.isSome_iff_ne_none.mpr h)]

end

section
variable {s : State} {p : PosId} (hfrozen : (s.pos p).frozen = false)
  (hpres : (s.pos p).card.accepted = some .present) (hc : Input.Completes s.depths.card .absent (s.pos p).card)
include hfrozen hpres hc

theorem withdrawal_reading (hs : (s.pos p).state = .reading) :
    ∃ t, exec (.inputSample p (.card .absent)) s = .next t ∧ (s.modPos p fun x => x.gone.vacated).UpToGrants t ∧
      (∀ f, (s.pos p).inFlight = some f → (s.pos p).pendingOp = none →
        (t.pos p).inFlight = some { f with discard := true }) := by
  have hv : (s.modPos p fun x => { x with card := .acceptedAt .absent }).cardLeaves p =
      s.modPos p fun x => ({ x with card := .acceptedAt .absent } : Position).discardIdentify.vacated := by
    unfold State.cardLeaves
    rw [State.withdrawn_state hs]
    dsimp only
    rw [State.modPos_modPos]
    exact State.modPos_congr (Position.arriveVacant_eq _)
  have hx := exec_withdrawal hfrozen hpres hc
  rw [hv] at hx
  obtain ⟨v, hvdef⟩ : ∃ v, v = s.modPos p fun x =>
    ({ x with card := .acceptedAt .absent } : Position).discardIdentify.vacated := ⟨_, rfl⟩
  have hvp : v.pos p = ({ s.pos p with card := .acceptedAt .absent } : Position).discardIdentify.vacated := by
    rw [hvdef, State.modPos_pos_self]
  have hset : v.settle p = v := by
    obtain ⟨h1, h2, -⟩ := Position.vacated_place (({ s.pos p with card := .acceptedAt .absent } : Position).discardIdentify)
    exact v.settle_of_other p (by rw [hvp]; exact h1) (by rw [hvp]; exact h2)
  rw [← hvdef] at hx
  refine ⟨_, hx, ?_, fun f hf hop => ?_⟩
  · refine .trans ?_ (State.conclude_of_settled hset)
    rw [hvdef]
    exact s.modPos_upToGrants p (Position.gone_discarding _)
  · obtain ⟨h1, h2⟩ := Position.vacated_op (({ s.pos p with card := .acceptedAt .absent } : Position).discardIdentify)
    have hvf : (v.pos p).inFlight = some { f with discard := true } := by
      rw [hvp, h1]
      exact congrArg (Option.map fun f : InFlight => { f with discard := true }) hf
    rw [State.conclude_running hset (by rw [hvf]; nofun) (by rw [hvp, h2]; exact hop), hvf]

theorem withdrawal_metered (hs : (s.pos p).state ∈ [.routed, .metering, .lastUnit]) :
    let u : State :=
      { (s.modPos p fun x => x.gone.inClearing s.settings.clearWait s.link.stamp .cardWithdrawn) with
        acct := { s.acct with global :=
          { s.acct.global with withdrawals := min 65535 (s.acct.global.withdrawals + 1) } } }
    let answers := fun u : State => ∃ t, exec (.inputSample p (.card .absent)) s = .next t ∧ u.UpToGrants t
    ((s.pos p).inFlight = none → (s.pos p).line.accepted ≠ some .idle → answers (u.passDebt p)) ∧
    (∀ id c, (s.pos p).inFlight = none → (s.pos p).line.accepted = some .idle → (s.pos p).identity = some id →
      (s.pos p).call = some c →
      ∃ c', ((u.passDebt p).pos p).call = some c' ∧
        answers (((u.passDebt p).recorded
          (c'.written p (some id.key) s.queue.nextSequence .cardWithdrawn)).modPos p fun x =>
            ({ x with call := none, reservation := false } : Position).vacated)) ∧
    ((s.pos p).inFlight ≠ none → answers (u.modPos p fun x => { x with cardLost := true })) := by
  intro u answers
  have hv : (s.modPos p fun x => { x with card := .acceptedAt .absent }).cardLeaves p = u.passOrLose p := by
    rw [State.cardLeaves_metered (by rw [State.modPos_pos_self]; exact hs)]
    refine congrArg (fun w : State => w.passOrLose p) ?_
    unfold State.moved
    rw [State.modPos_modPos]
    rfl
  have hu : u.pos p = (s.pos p).gone.inClearing s.settings.clearWait s.link.stamp .cardWithdrawn :=
    s.modPos_pos_self p fun x => x.gone.inClearing s.settings.clearWait s.link.stamp .cardWithdrawn
  have hstate : (u.pos p).state = .clearing := congrArg Position.state hu
  have hflight : (u.pos p).inFlight = (s.pos p).inFlight := (congrArg Position.inFlight hu).trans rfl
  have passes (hf : (s.pos p).inFlight = none) : u.passOrLose p = u.passDebt p :=
    State.passOrLose_idle (hflight.trans hf)
  refine ⟨fun hf hline => ?_, fun id c hf hline hid hcall => ?_, fun hf => ?_⟩
  · exact withdrawal_answers hfrozen hpres hc (hv.trans (passes hf)) (State.conclude_passed_waiting hstate
      ((congrArg Position.forcedClear hu).trans (decide_eq_true hline)))
  · have hid' : (u.pos p).identity = some id := (congrArg Position.identity hu).trans hid
    obtain ⟨c', hc', h⟩ := State.conclude_passed_done (c := { c with
        endCause := some .cardWithdrawn, duration := (c.answer.map fun a => s.link.stamp - a).getD 0 })
      (why := .cardWithdrawn) hstate ((congrArg Position.forcedClear hu).trans (decide_eq_false (Classical.not_not.mpr hline)))
      (by rw [hid']; nofun) (hflight.trans hf) ((congrArg Position.cardLeft hu).trans rfl)
      ((congrArg Position.call hu).trans (congrArg (Option.map _) hcall)) rfl
    refine ⟨c', hc', withdrawal_answers hfrozen hpres hc (hv.trans (passes hf)) ?_⟩
    have hkey : (u.pos p).key = some id.key := congrArg (Option.map fun y : CardId => y.key) hid'
    rw [hkey] at h
    exact h
  · exact withdrawal_answers hfrozen hpres hc (hv.trans (State.passOrLose_running (by rw [hflight]; exact hf)))
      (State.conclude_lost rfl)

theorem withdrawal_clearing (hs : (s.pos p).state = .clearing) :
    let u := (s.modPos p (·.gone)).passDebt p
    let answers := fun u : State => ∃ t, exec (.inputSample p (.card .absent)) s = .next t ∧ u.UpToGrants t
    ((s.pos p).inFlight = none → (s.pos p).forcedClear = true → answers u) ∧
    (∀ c why, (s.pos p).inFlight = none → (s.pos p).forcedClear = false → (s.pos p).identity ≠ none →
      (s.pos p).call = some c → c.endCause = some why →
      ∃ c', (u.pos p).call = some c' ∧
        answers ((u.recorded (c'.written p (s.pos p).key s.queue.nextSequence why)).modPos p fun x =>
          ({ x with call := none, reservation := false } : Position).vacated)) ∧
    ((s.pos p).inFlight ≠ none → answers (s.modPos p fun x => { x.gone with cardLost := true })) := by
  intro u answers
  obtain ⟨v, hvdef⟩ : ∃ v, v = s.modPos p (·.gone) := ⟨_, rfl⟩
  have hv : (s.modPos p fun x => { x with card := .acceptedAt .absent }).cardLeaves p = v.passOrLose p := by
    unfold State.cardLeaves
    rw [State.withdrawn_state hs]
    dsimp only
    rw [State.modPos_modPos, hvdef]
    rfl
  have hp : v.pos p = (s.pos p).gone := by rw [hvdef, State.modPos_pos_self]
  have hstate : (v.pos p).state = .clearing := (congrArg Position.state hp).trans hs
  have hflight : (v.pos p).inFlight = (s.pos p).inFlight := (congrArg Position.inFlight hp).trans rfl
  have passes (hf : (s.pos p).inFlight = none) : v.passOrLose p = v.passDebt p :=
    State.passOrLose_idle (hflight.trans hf)
  have hu : u = v.passDebt p := by rw [hvdef]
  refine ⟨fun hf hforced => ?_, fun c why hf hforced hid hcall hw => ?_, fun hf => ?_⟩
  · rw [hu]
    exact withdrawal_answers hfrozen hpres hc (hv.trans (passes hf)) (State.conclude_passed_waiting hstate
      ((congrArg Position.forcedClear hp).trans hforced))
  · obtain ⟨c', hc', h⟩ := State.conclude_passed_done hstate ((congrArg Position.forcedClear hp).trans hforced)
      (by rw [hp]; exact hid) (hflight.trans hf) ((congrArg Position.cardLeft hp).trans rfl)
      ((congrArg Position.call hp).trans hcall) hw
    rw [show (v.pos p).key = (s.pos p).key by rw [hp]; rfl, show v.queue = s.queue by rw [hvdef]; rfl] at h
    rw [hu]
    exact ⟨c', hc', withdrawal_answers hfrozen hpres hc (hv.trans (passes hf)) h⟩
  · have hlost : v.passOrLose p = s.modPos p fun x => { x.gone with cardLost := true } := by
      rw [State.passOrLose_running (by rw [hflight]; exact hf), hvdef, State.modPos_modPos]
    exact withdrawal_answers hfrozen hpres hc (hv.trans hlost) (State.conclude_lost rfl)

theorem withdrawal_recovering (hs : (s.pos p).state = .recovering) :
    let u := (s.modPos p (·.gone)).passDebt p
    let answers := fun u : State => ∃ t, exec (.inputSample p (.card .absent)) s = .next t ∧ u.UpToGrants t
    ((s.pos p).reservation = false → answers (s.modPos p fun x => x.gone.vacated)) ∧
    (∀ r, (s.pos p).reservation = true → (s.pos p).inFlight = none → (s.pos p).call = none →
      (s.pos p).recovery = some r →
      ∃ r', (u.pos p).recovery = some r' ∧
        answers ((u.recorded (r'.written p (s.pos p).key s.queue.nextSequence .cardWithdrawn)).modPos p fun x =>
          ({ x with recovery := none, reservation := false } : Position).vacated)) ∧
    ((s.pos p).reservation = true → (s.pos p).inFlight ≠ none →
      answers (s.modPos p fun x => { x.gone with cardLost := true })) := by
  intro u answers
  obtain ⟨v, hvdef⟩ : ∃ v, v = s.modPos p (·.gone) := ⟨_, rfl⟩
  have hp : v.pos p = (s.pos p).gone := by rw [hvdef, State.modPos_pos_self]
  have hv : (s.modPos p fun x => { x with card := .acceptedAt .absent }).cardLeaves p =
      if (s.pos p).reservation = false then v.modPos p (·.arriveVacant)
      else if (s.pos p).inFlight ≠ none then v.modPos p fun x => { x with cardLost := true } else v.loseRecovery p := by
    have hgone : ((s.modPos p fun x => { x with card := .acceptedAt .absent }).modPos p fun x =>
        { x with cardLeft := true }) = v := by
      rw [State.modPos_modPos, hvdef]
      rfl
    rw [State.cardLeaves_recovering (State.withdrawn_state hs), hgone, State.modPos_pos_self]
  have hu : u = v.passDebt p := by rw [hvdef]
  refine ⟨fun hres => ?_, fun r hres hf hcall hr => ?_, fun hres hf => ?_⟩
  · have hgone : v.modPos p (·.arriveVacant) = s.modPos p fun x => x.gone.vacated := by
      rw [hvdef, State.modPos_modPos]
      exact State.modPos_congr (Position.arriveVacant_eq _)
    refine withdrawal_answers hfrozen hpres hc (hv.trans ((if_pos hres).trans hgone)) ?_
    exact State.conclude_vacated (State.modPos_pos_self s p fun x => x.gone.vacated)
  · have hpass : u.pos p = (v.pos p).passed := hu ▸ State.passDebt_pos (by
      rw [hp]
      exact fun h => PosState.noConfusion (hs.symm.trans h))
    have hsame := (v.pos p).passed_sameEnd
    rw [← hpass] at hsame
    obtain ⟨r', hr'⟩ : ∃ r', (u.pos p).recovery = some r' :=
      Option.isSome_iff_exists.mp (hsame.recovery.trans (congrArg Option.isSome ((congrArg Position.recovery hp).trans hr)))
    have hkey : (u.pos p).key = (s.pos p).key :=
      congrArg (Option.map fun y : CardId => y.key) (hsame.identity.trans ((congrArg Position.identity hp).trans rfl))
    have hqueue : u.queue = s.queue := by
      rw [hu, State.passDebt_queue, hvdef]
      rfl
    have hlose : v.loseRecovery p = _ := (congrArg (fun w : State =>
      (w.closeRecovery p .cardWithdrawn).modPos p (·.arriveVacant)) hu.symm).trans
      (State.closeRecovery_vacated hr' .cardWithdrawn)
    rw [hkey, hqueue] at hlose
    refine ⟨r', hr', withdrawal_answers hfrozen hpres hc (hv.trans ((if_neg (by rw [hres]; nofun)).trans
      ((if_neg fun h => h hf).trans hlose))) ?_⟩
    exact State.conclude_vacated (State.modPos_pos_self (u.recorded _) p fun x =>
      ({ x with recovery := none, reservation := false } : Position).vacated)
  · have hlost : v.modPos p (fun x => { x with cardLost := true }) = s.modPos p fun x => { x.gone with cardLost := true } := by
      rw [hvdef, State.modPos_modPos]
    exact withdrawal_answers hfrozen hpres hc (hv.trans ((if_neg (by rw [hres]; nofun)).trans
      ((if_pos hf).trans hlost))) (State.conclude_lost rfl)

end

/-- Settles O6: the withdrawal state by state, then what the tear list makes of what is owed. -/
theorem withdrawalEndsCall : Obligations.WithdrawalEndsCall := by
  unfold Obligations.WithdrawalEndsCall
  refine ⟨fun s p hfrozen hpres hc => ?_, fun s p id hid hone => ?_, fun s n => ?_⟩
  · intro gone answers
    have plain {f : Position → Position}
        (hv : (s.modPos p fun x => { x with card := .acceptedAt .absent }).cardLeaves p = s.modPos p f)
        (h1 : (f (s.pos p)).state ≠ .clearing) (h2 : (f (s.pos p)).state ≠ .recovering) : answers (s.modPos p f) :=
      withdrawal_answers hfrozen hpres hc hv (State.moved_upToGrants rfl h1 h2)
    refine ⟨fun hs => ?_, withdrawal_reading hfrozen hpres hc, fun hs => ?_, fun hs => ?_,
      withdrawal_metered hfrozen hpres hc, withdrawal_clearing hfrozen hpres hc, withdrawal_recovering hfrozen hpres hc⟩
    · refine plain (f := fun x => { x with card := .acceptedAt .absent })
        (State.cardLeaves_empty (by rw [State.modPos_pos_self]; exact hs)) ?_ ?_
      · exact fun h => by rw [show (s.pos p).state = .clearing from h] at hs; simp at hs
      · exact fun h => by rw [show (s.pos p).state = .recovering from h] at hs; simp at hs
    · obtain ⟨h1, h2, -⟩ := (gone (s.pos p)).vacated_place
      refine plain ?_ h1 h2
      rw [State.cardLeaves_held (by rw [State.modPos_pos_self]; exact hs), State.modPos_modPos]
      exact State.modPos_congr (Position.arriveVacant_eq _)
    · refine plain ?_ ?_ ?_
      · unfold State.cardLeaves
        rw [State.withdrawn_state hs]
        dsimp only
        rw [State.modPos_modPos]
        rfl
      · exact fun h => PosState.noConfusion (hs.symm.trans h)
      · exact fun h => PosState.noConfusion (hs.symm.trans h)
  · exact ⟨State.passDebt_of_nothing, State.passDebt_of_owing hid hone⟩
  · exact ⟨State.createEntry_new, fun old => State.createEntry_merged, fun oldest rest => State.createEntry_evicting⟩

end Sys2Proof.Machine
end

section
/-!
PROOFS. What the end of a call or a recovery at RESTART keeps, and what it files: a creation request and a record (R44).
-/

namespace Sys2Proof.Machine

/-! ### The part of the state that creation requests move -/

/-- Two states of the same tear list, with the same evictions and units written off. -/
structure State.SameLedger (s t : State) : Prop where
  tear : t.tear = s.tear
  evicted : t.link.tearEvicted = s.link.tearEvicted
  stamp : t.link.stamp = s.link.stamp
  global : t.acct.global = s.acct.global
  writtenOff : t.acct.totals.writtenOff = s.acct.totals.writtenOff

theorem State.SameLedger.refl (s : State) : s.SameLedger s := ⟨rfl, rfl, rfl, rfl, rfl⟩

theorem State.SameLedger.symm {s t : State} (h : s.SameLedger t) : t.SameLedger s :=
  ⟨h.tear.symm, h.evicted.symm, h.stamp.symm, h.global.symm, h.writtenOff.symm⟩

theorem State.SameLedger.trans {s t u : State} (h1 : s.SameLedger t) (h2 : t.SameLedger u) : s.SameLedger u :=
  ⟨h2.tear.trans h1.tear, h2.evicted.trans h1.evicted, h2.stamp.trans h1.stamp, h2.global.trans h1.global,
    h2.writtenOff.trans h1.writtenOff⟩

/-- A creation request finds its key unlisted, listed, or unlisted with the list full. -/
theorem State.createEntry_cases (s : State) (n : TearEntry) :
    (s.tearEntry n.key = none ∧ s.tear.entries.length < 32) ∨ (∃ old, s.tearEntry n.key = some old) ∨
      ∃ oldest rest, s.tearEntry n.key = none ∧ s.tear.entries = oldest :: rest ∧ 32 ≤ s.tear.entries.length := by
  cases hn : s.tearEntry n.key with
  | some old => exact .inr (.inl ⟨old, rfl⟩)
  | none =>
    by_cases hl : s.tear.entries.length < 32
    · exact .inl ⟨rfl, hl⟩
    · refine .inr (.inr ?_)
      cases he : s.tear.entries with
      | nil => simp [he] at hl
      | cons oldest rest => exact ⟨oldest, rest, rfl, rfl, by rw [← he]; omega⟩

theorem State.SameLedger.createEntry {s t : State} (h : s.SameLedger t) (n : TearEntry) :
    (s.createEntry n).SameLedger (t.createEntry n) := by
  obtain ⟨htear, hev, hst, hg, hw⟩ := h
  have hentry : t.tearEntry n.key = s.tearEntry n.key := congrArg (fun l : TearList => l.entries.find? _) htear
  have hentries : t.tear.entries = s.tear.entries := congrArg TearList.entries htear
  rcases s.createEntry_cases n with ⟨hn, hl⟩ | ⟨old, ho⟩ | ⟨oldest, rest, hn, he, hl⟩
  · rw [State.createEntry_new hn hl, State.createEntry_new (hentry.trans hn) (hentries ▸ hl)]
    constructor <;> simp only [State.mapPos_link, State.mapPos_acct, htear, hev, hst, hg, hw]
  · rw [State.createEntry_merged ho, State.createEntry_merged (hentry.trans ho)]
    constructor <;> simp only [State.mapPos_link, Accounting.plusWrittenOff, htear, hev, hst, hg, hw]
  · rw [State.createEntry_evicting hn he hl,
      State.createEntry_evicting (hentry.trans hn) (hentries.trans he) (hentries ▸ hl)]
    constructor <;> simp only [Accounting.plusWrittenOff, hst, hg, hw]

/-! ### What happens at the other positions -/

theorem State.createEntry_pos_eq (s : State) (n : TearEntry) (q : PosId) :
    ∃ x, (x = s.pos q ∨ ∃ k, x = (s.pos q).released k) ∧ (s.createEntry n).pos q = x.noticed n.key := by
  have hmap {t : State} (f : PosId → Position → Position) (ht : t.positions = (s.mapPos f).positions) :
      t.pos q = f q (s.pos q) := (congrArg (fun v : Vector Position 48 => v[q.val]) ht).trans (s.mapPos_pos f q)
  rcases s.createEntry_cases n with ⟨hn, hl⟩ | ⟨old, ho⟩ | ⟨oldest, rest, hn, he, hl⟩
  · rw [State.createEntry_new hn hl]
    exact ⟨_, .inl rfl, hmap (fun _ x => x.noticed n.key) rfl⟩
  · rw [State.createEntry_merged ho]
    exact ⟨_, .inl rfl, hmap (fun _ x => x.noticed n.key) rfl⟩
  · rw [State.createEntry_evicting hn he hl]
    exact ⟨_, .inr ⟨oldest.key, rfl⟩, hmap (fun _ x => (x.released oldest.key).noticed n.key) rfl⟩

/-- What RESTART keeps of a position while calls and recoveries end: whether it goes to BLOCKED, and its settings. -/
structure Position.SamePlace (x y : Position) : Prop where
  blocked : (y.state = .blocked ∨ y.blockPending = true) ↔ (x.state = .blocked ∨ x.blockPending = true)
  profile : y.profile = x.profile
  freezeMark : y.freezeMark = x.freezeMark
  allocation : y.allocation = x.allocation
  relieved : y.relieved = x.relieved
  pendingAlloc : y.pendingAlloc = x.pendingAlloc

theorem Position.SamePlace.refl (x : Position) : x.SamePlace x := ⟨.rfl, rfl, rfl, rfl, rfl, rfl⟩

theorem Position.SamePlace.trans {x y z : Position} (h1 : x.SamePlace y) (h2 : y.SamePlace z) : x.SamePlace z :=
  ⟨h2.blocked.trans h1.blocked, h2.profile.trans h1.profile, h2.freezeMark.trans h1.freezeMark,
    h2.allocation.trans h1.allocation, h2.relieved.trans h1.relieved, h2.pendingAlloc.trans h1.pendingAlloc⟩

theorem Position.noticed_samePlace (k : CardKey) (x : Position) : x.SamePlace (x.noticed k) := by
  unfold Position.noticed
  split
  · exact ⟨.rfl, rfl, rfl, rfl, rfl, rfl⟩
  · exact .refl x

theorem Position.released_samePlace (k : CardKey) (x : Position) : x.SamePlace (x.released k) := by
  unfold Position.released
  split
  · next h =>
    obtain ⟨hs, -, -⟩ := h
    unfold Position.cleared
    split
    · next hb => exact ⟨by simp [hb, Position.rested], rfl, rfl, rfl, rfl, rfl⟩
    · next hb =>
      split
      · exact ⟨by simp [hb, hs, Position.refusedWith, Position.rested], rfl, rfl, rfl, rfl, rfl⟩
      · exact ⟨by simp [hb, hs, Position.rested], rfl, rfl, rfl, rfl, rfl⟩
  · exact .refl x

theorem Position.mapUnits_samePlace (f : Units → Units) (x : Position) : x.SamePlace (x.mapUnits f) := by
  unfold Position.mapUnits
  split <;> exact ⟨.rfl, rfl, rfl, rfl, rfl, rfl⟩

/-- What the end of calls and recoveries at RESTART keeps of the whole state. -/
structure State.Filing (s t : State) : Prop where
  places : ∀ p, (s.pos p).SamePlace (t.pos p)
  frame : t = { s with
    positions := t.positions, tear := t.tear, queue := t.queue
    acct := { s.acct with totals := t.acct.totals, global := t.acct.global }
    link := { s.link with tearEvicted := t.link.tearEvicted } }
  records : s.queue.records <+: t.queue.records
  evicted : s.link.tearEvicted = true → t.link.tearEvicted = true

theorem State.Filing.refl (s : State) : s.Filing s := ⟨fun _ => .refl _, rfl, List.prefix_rfl, id⟩

theorem State.Filing.trans {s t u : State} (h1 : s.Filing t) (h2 : t.Filing u) : s.Filing u where
  places p := (h1.places p).trans (h2.places p)
  frame := by
    have h := h2.frame
    rw [h1.frame] at h
    exact h
  records := h1.records.trans h2.records
  evicted h := h2.evicted (h1.evicted h)

theorem State.modPos_filing (s : State) (p : PosId) {f : Position → Position} (h : (s.pos p).SamePlace (f (s.pos p))) :
    s.Filing (s.modPos p f) := by
  refine ⟨fun q => ?_, rfl, List.prefix_rfl, id⟩
  rw [State.modPos_pos]
  split
  · next hq => exact hq ▸ h
  · exact .refl _

theorem State.createEntry_filing (s : State) (n : TearEntry) : s.Filing (s.createEntry n) := by
  have hplaces (q : PosId) : (s.pos q).SamePlace ((s.createEntry n).pos q) := by
    obtain ⟨x, hx, hq⟩ := s.createEntry_pos_eq n q
    rw [hq]
    refine .trans ?_ (x.noticed_samePlace n.key)
    rcases hx with rfl | ⟨k, rfl⟩
    · exact .refl _
    · exact Position.released_samePlace k _
  refine ⟨hplaces, ?_, ⟨[], by rw [State.createEntry_queue, List.append_nil]⟩, fun hev => ?_⟩
  · rcases s.createEntry_cases n with ⟨hn, hl⟩ | ⟨old, ho⟩ | ⟨oldest, rest, hn, he, hl⟩
    · rw [State.createEntry_new hn hl]
      unfold State.mapPos
      rfl
    · rw [State.createEntry_merged ho]
      unfold State.mapPos
      rfl
    · rw [State.createEntry_evicting hn he hl]
      unfold State.mapPos
      rfl
  · rcases s.createEntry_cases n with ⟨hn, hl⟩ | ⟨old, ho⟩ | ⟨oldest, rest, hn, he, hl⟩
    · rw [State.createEntry_new hn hl]
      dsimp only
      rw [State.mapPos_link]
      exact hev
    · rw [State.createEntry_merged ho]
      dsimp only
      rw [State.mapPos_link]
      exact hev
    · rw [State.createEntry_evicting hn he hl]

theorem State.writeRecord_filing (s : State) (r : Word16 → CallRecord) : s.Filing (s.writeRecord r) :=
  ⟨fun _ => .refl _, rfl, List.prefix_append _ _, id⟩

theorem State.passDebt_filing (s : State) (p : PosId) : s.Filing (s.passDebt p) := by
  have hclear : s.Filing (s.modPos p fun x => { x with cardLost := false }) :=
    s.modPos_filing p ⟨.rfl, rfl, rfl, rfl, rfl, rfl⟩
  unfold State.passDebt
  dsimp only
  split
  · exact hclear
  · split
    · exact hclear
    · refine .trans (s.modPos_filing p ?_) (State.createEntry_filing _ _)
      exact .trans (Position.mapUnits_samePlace _ _) ⟨.rfl, rfl, rfl, rfl, rfl, rfl⟩

theorem State.closeCall_filing (s : State) (p : PosId) : s.Filing (s.closeCall p) := by
  unfold State.closeCall
  split
  · exact .refl s
  · exact (s.writeRecord_filing _).trans (State.modPos_filing _ p ⟨.rfl, rfl, rfl, rfl, rfl, rfl⟩)

theorem State.closeRecovery_filing (s : State) (p : PosId) (why : EndCause) : s.Filing (s.closeRecovery p why) := by
  unfold State.closeRecovery
  split
  · exact .refl s
  · exact (s.writeRecord_filing _).trans (State.modPos_filing _ p ⟨.rfl, rfl, rfl, rfl, rfl, rfl⟩)

theorem State.restartCall_filing (s : State) (p : PosId) : s.Filing (s.restartCall p) := by
  have hcause : (s.pos p).SamePlace ((s.pos p).restartCause s.link.stamp) := by
    unfold Position.restartCause Position.mapCall
    split
    · exact .refl _
    · exact ⟨.rfl, rfl, rfl, rfl, rfl, rfl⟩
  unfold State.restartCall
  split
  · exact ((s.modPos_filing p hcause).trans (State.passDebt_filing _ p)).trans (State.closeCall_filing _ p)
  · exact .refl s

theorem State.restartRecovery_filing (s : State) (p : PosId) : s.Filing (s.restartRecovery p) := by
  unfold State.restartRecovery
  split
  · exact (s.passDebt_filing p).trans (State.closeRecovery_filing _ p _)
  · exact .refl s

theorem State.Filing.foldl {f : State → PosId → State} (h : ∀ s p, State.Filing s (f s p)) (ps : List PosId) (s : State) :
    s.Filing (ps.foldl f s) := by
  induction ps generalizing s with
  | nil => exact .refl s
  | cons p ps ih => exact (h s p).trans (ih _)

end Sys2Proof.Machine
end

section
/-!
PROOFS. Step 1 of RESTART: the operations are cut off, engine by engine (R44, R98, R108).
-/

namespace Sys2Proof.Machine

/-! ### A pending allocation -/

/-- Whether a position whose home lane is FAULTED is relieved as it comes home (R109, R110). -/
def State.relieving (s : State) (p : PosId) : Bool :=
  (s.eng (homeEngine p)).lane = .faulted ∧ (s.eng (homeEngine p)).autoRelief = true

/-- A pending allocation applied. -/
def Position.allocated (relieving : Bool) (x : Position) : Position :=
  match x.pendingAlloc with
  | none => x
  | some a =>
    if a = .home ∧ x.allocation ≠ .home ∧ relieving = true then ({ x with pendingAlloc := none } : Position).relieve
    else { x with pendingAlloc := none, allocation := a, changed := x.changed || decide (x.allocation ≠ a) }

theorem State.applyPendingAllocation_eq (s : State) (p : PosId) :
    s.applyPendingAllocation p = s.modPos p (·.allocated (s.relieving p)) := by
  unfold State.applyPendingAllocation
  cases ha : (s.pos p).pendingAlloc with
  | none =>
    refine (State.modPos_eq_self ?_).symm
    unfold Position.allocated
    rw [ha]
  | some a =>
    dsimp only
    rw [State.setAllocation_eq, State.modPos_modPos]
    refine State.modPos_congr ?_
    unfold Position.allocated State.relieving
    rw [ha]
    simp only [decide_eq_true_eq]
    rfl

/-- What an allocation applied leaves of a position. -/
structure Position.SameButAllocation (x y : Position) : Prop where
  state : y.state = x.state
  blockPending : y.blockPending = x.blockPending
  profile : y.profile = x.profile
  freezeMark : y.freezeMark = x.freezeMark
  identity : y.identity = x.identity
  debt : y.debt = x.debt
  doubt : y.doubt = x.doubt
  call : y.call = x.call
  recovery : y.recovery = x.recovery
  reservation : y.reservation = x.reservation

theorem Position.allocated_same (r : Bool) (x : Position) : x.SameButAllocation (x.allocated r) := by
  unfold Position.allocated Position.relieve
  split
  · exact ⟨rfl, rfl, rfl, rfl, rfl, rfl, rfl, rfl, rfl, rfl⟩
  · split <;> exact ⟨rfl, rfl, rfl, rfl, rfl, rfl, rfl, rfl, rfl, rfl⟩

/-- A position whose operation RESTART cuts off. -/
def Position.cutOff (relieving : Bool) (x : Position) : Position :=
  match x.inFlight with
  | none => x
  | some f => (x.abandon f.op).allocated relieving

/-! ### One engine after another -/

/-- RESTART has still to come to some engines. -/
structure State.CutOff (s : State) (es : List EngineId) (u : State) : Prop where
  eng : ∀ e, u.eng e = if e ∈ es then s.eng e else (s.eng e).restart
  counts : ∀ e : EngineId, u.acct.engines[e.val] =
    if e ∈ es ∨ (s.eng e).op = none then s.acct.engines[e.val] else s.acct.engines[e.val].completed .abandoned
  frame : u = { s with
    positions := u.positions, engines := u.engines, acct := { s.acct with engines := u.acct.engines } }
  place : ∀ p, (u.pos p).state = (s.pos p).state ∧ (u.pos p).blockPending = (s.pos p).blockPending ∧
    (u.pos p).profile = (s.pos p).profile ∧ (u.pos p).freezeMark = (s.pos p).freezeMark
  pos : s.OperationsAgree → ∀ p, u.pos p =
    if ∃ f, (s.pos p).inFlight = some f ∧ f.engine ∈ es then s.pos p else (s.pos p).cutOff (s.relieving p)

theorem State.CutOff.start (s : State) : s.CutOff allEngines s where
  eng e := (if_pos (List.mem_finRange e)).symm
  counts e := (if_pos (.inl (List.mem_finRange e))).symm
  frame := rfl
  place p := ⟨rfl, rfl, rfl, rfl⟩
  pos _ p := by
    split
    · rfl
    · next h =>
      have hf : (s.pos p).inFlight = none := by
        refine Classical.byContradiction fun hne => ?_
        obtain ⟨f, hf⟩ := Option.ne_none_iff_exists'.mp hne
        exact h ⟨f, hf, List.mem_finRange _⟩
      unfold Position.cutOff
      rw [hf]

/-- A FAULTED lane has no operation, and RESTART leaves it. -/
theorem State.OperationsAgree.restart_faulted {s : State} (h : s.OperationsAgree) (e : EngineId) :
    ((s.eng e).restart.lane = .faulted ↔ (s.eng e).lane = .faulted) ∧
      (s.eng e).restart.autoRelief = (s.eng e).autoRelief := by
  refine ⟨?_, rfl⟩
  unfold Engine.restart
  dsimp only
  split
  · next hd =>
    obtain ⟨op, hop⟩ := Option.isSome_iff_exists.mp ((Bool.and_eq_true _ _).mp hd).2
    have hlane := (h.1 e op hop).2
    constructor
    · nofun
    · intro hf
      rw [hf] at hlane
      simp at hlane
  · rfl

theorem State.OperationsAgree.relieving {s w : State} (h : s.OperationsAgree)
    (hw : ∀ d, w.eng d = s.eng d ∨ w.eng d = (s.eng d).restart) (p : PosId) : w.relieving p = s.relieving p := by
  unfold State.relieving
  rcases hw (homeEngine p) with he | he
  · rw [he]
  · obtain ⟨h1, h2⟩ := h.restart_faulted (homeEngine p)
    rw [he, h2]
    exact decide_eq_decide.mpr (and_congr_left' h1)

theorem State.modCounts_counts (s : State) (e d : EngineId) (f : EngineCounts → EngineCounts) :
    (s.modCounts e f).acct.engines[d.val] = if d = e then f s.acct.engines[e.val] else s.acct.engines[d.val] := by
  split
  · next h =>
    rw [h]
    exact s.modCounts_self e f
  · next h =>
    unfold State.modCounts State.modAcct
    exact Vector.getElem_set_ne e.isLt d.isLt fun hv => h (Fin.ext hv.symm)

theorem State.restartEngine_idle {u : State} {e : EngineId} (h : (u.eng e).op = none) :
    u.restartEngine e = u.modEng e (·.restart) := by
  unfold State.restartEngine
  rw [h]

theorem State.restartEngine_running {u : State} {e : EngineId} {op : EngineOp} (h : (u.eng e).op = some op) :
    u.restartEngine e =
      ((u.modEng e (·.restart)).modCounts e (·.completed .abandoned)).modPos op.position fun x =>
        (x.abandon op.op).allocated ((u.modEng e (·.restart)).relieving op.position) := by
  unfold State.restartEngine
  rw [h]
  dsimp only
  rw [State.applyPendingAllocation_eq, State.modPos_modPos]
  rfl

theorem Position.abandon_place (op : CardOp) (x : Position) :
    (x.abandon op).state = x.state ∧ (x.abandon op).blockPending = x.blockPending ∧
      (x.abandon op).profile = x.profile ∧ (x.abandon op).freezeMark = x.freezeMark := by
  unfold Position.abandon
  dsimp only
  split <;> exact ⟨rfl, rfl, rfl, rfl⟩

section
variable {s u : State} {e : EngineId} {es : List EngineId} (h : s.CutOff (e :: es) u) (he : e ∉ es)
include h

theorem State.CutOff.still_eng : u.eng e = s.eng e := (h.eng e).trans (if_pos List.mem_cons_self)

include he

theorem State.CutOff.step_eng {w : State} (hw : w.engines = (u.modEng e (·.restart)).engines) (d : EngineId) :
    w.eng d = if d ∈ es then s.eng d else (s.eng d).restart := by
  rw [State.eng_congr hw, State.modEng_eng]
  by_cases hd : d = e
  · rw [if_pos hd, hd, if_neg he, h.still_eng]
  · rw [if_neg hd, h.eng d]
    simp [hd]

theorem State.CutOff.step_idle (hop : (s.eng e).op = none) : s.CutOff es (u.restartEngine e) := by
  rw [State.restartEngine_idle (by rw [h.still_eng]; exact hop)]
  refine ⟨h.step_eng he rfl, fun d => ?_, ?_, h.place, fun ha p => ?_⟩
  · have hc := h.counts d
    by_cases hd : d = e
    · subst hd
      simpa [hop] using hc
    · simpa [hd] using hc
  · exact (congrArg (fun w : State => w.modEng e (·.restart)) h.frame).trans rfl
  · rw [State.modEng_pos, h.pos ha p]
    refine ite_iff_congr ⟨fun ⟨f, hf, hmem⟩ => ⟨f, hf, (List.mem_cons.mp hmem).resolve_left fun hfe => ?_⟩,
      fun ⟨f, hf, hmem⟩ => ⟨f, hf, List.mem_cons_of_mem _ hmem⟩⟩
    obtain ⟨op, hop', -⟩ := ha.2 p f hf
    rw [hfe, hop] at hop'
    cases hop'

theorem State.CutOff.step_running {op : EngineOp} (hop : (s.eng e).op = some op) : s.CutOff es (u.restartEngine e) := by
  rw [State.restartEngine_running (by rw [h.still_eng]; exact hop)]
  generalize hr : (u.modEng e (·.restart)).relieving op.position = r
  refine ⟨h.step_eng he rfl, fun d => ?_, ?_, fun p => ?_, fun ha p => ?_⟩
  · have hc := h.counts d
    change ((u.modEng e (·.restart)).modCounts e (·.completed .abandoned)).acct.engines[d.val] = _
    rw [State.modCounts_counts]
    by_cases hd : d = e
    · subst hd
      rw [if_pos rfl, if_neg (by simp [he, hop])]
      exact congrArg _ (hc.trans (if_pos (.inl List.mem_cons_self)))
    · rw [if_neg hd]
      refine hc.trans ?_
      simp [hd]
  · exact (congrArg (fun w : State => ((w.modEng e (·.restart)).modCounts e (·.completed .abandoned)).modPos op.position
      fun x => (x.abandon op.op).allocated r) h.frame).trans rfl
  · rw [State.modPos_pos, State.modCounts_pos, State.modEng_pos]
    split
    · next hp =>
      subst hp
      obtain ⟨a1, a2, a3, a4⟩ := (u.pos op.position).abandon_place op.op
      have hsame := ((u.pos op.position).abandon op.op).allocated_same r
      obtain ⟨p1, p2, p3, p4⟩ := h.place op.position
      exact ⟨hsame.state.trans (a1.trans p1), hsame.blockPending.trans (a2.trans p2), hsame.profile.trans (a3.trans p3),
        hsame.freezeMark.trans (a4.trans p4)⟩
    · exact h.place p
  · obtain ⟨⟨f, hf, hfe, hfo⟩, -⟩ := ha.1 e op hop
    rw [State.modPos_pos, State.modCounts_pos, State.modEng_pos]
    split
    · next hp =>
      subst hp
      have hrel : (u.modEng e (·.restart)).relieving op.position = s.relieving op.position := by
        refine ha.relieving (fun d => ?_) op.position
        rw [h.step_eng he rfl d]
        split
        · exact .inl rfl
        · exact .inr rfl
      rw [h.pos ha op.position, if_pos ⟨f, hf, hfe ▸ List.mem_cons_self⟩, if_neg, ← hr, hrel, Position.cutOff, hf, ← hfo]
      rintro ⟨f', hf', hmem⟩
      cases hf.symm.trans hf'
      exact he (hfe ▸ hmem)
    · next hp =>
      refine (h.pos ha p).trans (ite_iff_congr ⟨fun ⟨g, hg, hmem⟩ => ⟨g, hg, (List.mem_cons.mp hmem).resolve_left fun hge => ?_⟩,
        fun ⟨g, hg, hmem⟩ => ⟨g, hg, List.mem_cons_of_mem _ hmem⟩⟩)
      obtain ⟨op', hop', hpos, -⟩ := ha.2 p g hg
      rw [hge, hop] at hop'
      cases hop'
      exact hp hpos.symm

theorem State.CutOff.step : s.CutOff es (u.restartEngine e) := by
  cases hop : (s.eng e).op with
  | none => exact h.step_idle he hop
  | some op => exact h.step_running he hop

end

theorem State.cutOff_engines (s : State) : s.CutOff [] (allEngines.foldl State.restartEngine s) := by
  have hfold (es : List EngineId) (hn : es.Nodup) (u : State) (h : s.CutOff es u) :
      s.CutOff [] (es.foldl State.restartEngine u) := by
    induction es generalizing u with
    | nil => exact h
    | cons e es ih => exact ih (List.nodup_cons.mp hn).2 _ (h.step (List.nodup_cons.mp hn).1)
  exact hfold allEngines (List.nodup_finRange 5) s (.start s)

end Sys2Proof.Machine
end

section
/-!
PROOFS. Steps 2 and 3 of RESTART: each call, then each recovery, passes its debt and writes its record (R44).
-/

namespace Sys2Proof.Machine

/-! ### What a position files -/

/-- A card is known and something is owed on it. -/
@[reducible] def Position.Owes (x : Position) : Prop := x.identity ≠ none ∧ (0 < x.debt ∨ x.doubt ≠ none)

/-- The units of a call or recovery once its debt has been passed. -/
def Position.out (x : Position) (u : Units) : Units :=
  let d := if x.doubt = none then 0 else 1
  if x.Owes then { u with owedOut := u.owedOut + (x.debt - d), doubtOut := u.doubtOut + d } else u

theorem Position.not_owes_iff {x : Position} : ¬x.Owes ↔ x.identity = none ∨ (x.debt = 0 ∧ x.doubt = none) := by
  unfold Position.Owes
  rw [Classical.not_and_iff_not_or_not, not_or, Classical.not_not, Classical.not_not, Nat.not_lt, Nat.le_zero]

theorem Position.passed_of_owes {x : Position} (h : x.Owes) :
    x.passed = { (x.mapUnits x.out) with debt := 0, doubt := none, cardLost := false } := by
  have hd : (if x.doubt.isSome then 1 else 0) = if x.doubt = none then 0 else 1 := by cases x.doubt <;> rfl
  have hout : x.out = fun u =>
      { u with owedOut := u.owedOut + (x.debt - if x.doubt = none then 0 else 1),
               doubtOut := u.doubtOut + if x.doubt = none then 0 else 1 } := by
    funext u
    exact if_pos h
  unfold Position.passed
  rw [if_neg (fun hn => (Position.not_owes_iff.mpr hn) h), hout, ← hd]

theorem Position.passed_of_not_owes {x : Position} (h : ¬x.Owes) : x.passed = { x with cardLost := false } :=
  if_pos (Position.not_owes_iff.mp h)

theorem Position.out_of_not_owes {x : Position} (h : ¬x.Owes) (u : Units) : x.out u = u := if_neg h

theorem Position.passed_call {x : Position} {c : Call} (h : x.call = some c) :
    x.passed.call = some { c with units := x.out c.units } := by
  by_cases ho : x.Owes
  · rw [Position.passed_of_owes ho, Position.mapUnits_of_call h]
  · rw [Position.passed_of_not_owes ho, Position.out_of_not_owes ho]
    exact h

theorem Position.passed_recovery {x : Position} {r : Recovery} (hc : x.call = none) (h : x.recovery = some r) :
    x.passed.recovery = some { r with units := x.out r.units } := by
  by_cases ho : x.Owes
  · rw [Position.passed_of_owes ho, Position.mapUnits, hc, h]
    rfl
  · rw [Position.passed_of_not_owes ho, Position.out_of_not_owes ho]
    exact h


/-- The creation request for what a position owes, at a stamp (R117). -/
def Position.request (x : Position) (p : PosId) (stamp : Word32) (id : CardId) : TearEntry :=
  { key := id.key, face := id.face, owed := x.debt - (if x.doubt = none then 0 else 1), inDoubt := x.doubt, origin := p,
    stamp := stamp }

/-- What a position of one state owes, taken into the tear list of another. -/
def State.entered (w u : State) (p : PosId) : State :=
  match (w.pos p).identity with
  | none => u
  | some id => u.createEntry ((w.pos p).request p w.link.stamp id)

theorem State.SameLedger.entered {u v : State} (h : u.SameLedger v) (w : State) (p : PosId) :
    (w.entered u p).SameLedger (w.entered v p) := by
  unfold State.entered
  split
  · exact h
  · exact h.createEntry _

/-- The two positions differ in nothing that RESTART files. -/
structure Position.Kept (x y : Position) : Prop where
  state : y.state = x.state
  identity : y.identity = x.identity
  debt : y.debt = x.debt
  doubt : y.doubt = x.doubt
  call : y.call = x.call
  recovery : y.recovery = x.recovery
  reservation : y.reservation = x.reservation

theorem Position.Kept.refl (x : Position) : x.Kept x := ⟨rfl, rfl, rfl, rfl, rfl, rfl, rfl⟩

/-! ### Passing the debt of one position -/

section
variable {w u : State} {p : PosId} (hid : (u.pos p).identity = (w.pos p).identity)
  (hdebt : (u.pos p).debt = (w.pos p).debt) (hdoubt : (u.pos p).doubt = (w.pos p).doubt)
  (hstamp : u.link.stamp = w.link.stamp) (hone : (u.pos p).call = none ∨ (u.pos p).recovery = none)
include hid hdebt hdoubt hstamp hone

theorem State.passDebt_entered : (if (w.pos p).Owes then w.entered u p else u).SameLedger (u.passDebt p) := by
  have howes : (u.pos p).Owes ↔ (w.pos p).Owes := by
    unfold Position.Owes
    rw [hid, hdebt, hdoubt]
  by_cases ho : (w.pos p).Owes
  · rw [if_pos ho]
    obtain ⟨hne, hany⟩ := ho
    obtain ⟨id, hw⟩ := Option.ne_none_iff_exists'.mp hne
    have hpass := State.passDebt_of_owing (hid.trans hw) hone (by rwa [hdebt, hdoubt])
    have hreq : (w.pos p).request p w.link.stamp id =
        { key := id.key, face := id.face, owed := (u.pos p).debt - (if (u.pos p).doubt = none then 0 else 1)
          inDoubt := (u.pos p).doubt, origin := p, stamp := u.link.stamp } := by
      rw [Position.request, hdebt, hdoubt, hstamp]
    have hentered : w.entered u p = u.createEntry ((w.pos p).request p w.link.stamp id) := by
      unfold State.entered
      rw [hw]
    dsimp only at hpass
    rw [hpass, hentered, hreq]
    refine State.SameLedger.createEntry ?_ _
    exact ⟨rfl, rfl, rfl, rfl, rfl⟩
  · rw [if_neg ho]
    have hnot := Position.not_owes_iff.mp fun h => ho (howes.mp h)
    rcases hnot with hn | ⟨h1, h2⟩
    · have : u.passDebt p = u.modPos p fun x => { x with cardLost := false } := by
        unfold State.passDebt
        dsimp only
        rw [hn]
      rw [this]
      exact ⟨rfl, rfl, rfl, rfl, rfl⟩
    · rw [State.passDebt_of_nothing h1 h2]
      exact ⟨rfl, rfl, rfl, rfl, rfl⟩

end

theorem State.createEntry_totals (s : State) (n : TearEntry) :
    (s.createEntry n).acct.totals = { s.acct.totals with writtenOff := (s.createEntry n).acct.totals.writtenOff } := by
  rcases s.createEntry_cases n with ⟨hn, hl⟩ | ⟨old, ho⟩ | ⟨oldest, rest, hn, he, hl⟩
  · rw [State.createEntry_new hn hl]
    dsimp only
    rw [State.mapPos_acct]
  · rw [State.createEntry_merged ho]
    rfl
  · rw [State.createEntry_evicting hn he hl]
    rfl

theorem State.passDebt_totals (s : State) (p : PosId) :
    (s.passDebt p).acct.totals = { s.acct.totals with writtenOff := (s.passDebt p).acct.totals.writtenOff } := by
  unfold State.passDebt
  dsimp only
  split
  · rfl
  · split
    · rfl
    · rw [State.createEntry_totals]
      rfl

/-- What the filing of one position can do to another: a release and a notice (R124, R126). -/
def Position.Touched (x y : Position) : Prop :=
  y = x ∨ ∃ z k, (z = x ∨ ∃ k', z = x.released k') ∧ y = z.noticed k

theorem State.passDebt_touched (s : State) {p q : PosId} (hq : q ≠ p) : (s.pos q).Touched ((s.passDebt p).pos q) := by
  unfold State.passDebt
  dsimp only
  split
  · exact .inl (State.modPos_pos_ne _ hq _)
  · split
    · exact .inl (State.modPos_pos_ne _ hq _)
    · obtain ⟨x, hx, hpos⟩ := State.createEntry_pos_eq _ _ q
      rw [State.modPos_pos_ne _ hq] at hx
      exact .inr ⟨x, _, hx, hpos⟩

/-! ### Positions that still stand -/

/-- A choice of positions that a release or a notice elsewhere cannot change. -/
structure Position.Selects (sel : Position → Prop) : Prop where
  kept : ∀ {x y : Position}, x.Kept y → (sel y ↔ sel x)
  rest : ∀ {x : Position}, x.state ∈ [.blocked, .refused, .ready] → ¬sel x
  holds : ∀ {x : Position}, x.ReservationLaw → sel x → ¬(x.state = .recovering ∧ x.reservation = false)

/-- A position stands: chosen and as it was, or not chosen before and after. -/
def Position.Stands (sel : Position → Prop) (x y : Position) : Prop := (sel x → x.Kept y) ∧ (¬sel x → ¬sel y)

theorem Position.called_selects :
    Position.Selects fun x => x.state ∈ [.routed, .metering, .lastUnit, .freeCall, .clearing] where
  kept h := by rw [h.state]
  rest h := by
    intro hc
    simp only [List.mem_cons, List.not_mem_nil, or_false] at h
    rcases h with h | h | h <;> simp [h] at hc
  holds _ hc h := by simp [h.1] at hc

theorem Position.recovering_selects : Position.Selects fun x => x.state = .recovering ∧ x.recovery ≠ none where
  kept h := by rw [h.state, h.recovery]
  rest h := by
    rintro ⟨hs, -⟩
    simp [hs] at h
  holds hlaw hsel h := by
    rw [hlaw.mpr (.inr hsel)] at h
    cases h.2

theorem Position.noticed_kept (k : CardKey) (x : Position) : x.Kept (x.noticed k) := by
  unfold Position.noticed
  split
  · exact ⟨rfl, rfl, rfl, rfl, rfl, rfl, rfl⟩
  · exact .refl x

theorem Position.released_or_rests (k : CardKey) (x : Position) :
    x.released k = x ∨
      ((x.state = .recovering ∧ x.reservation = false) ∧ (x.released k).state ∈ [.blocked, .refused, .ready]) := by
  unfold Position.released
  split
  · next h =>
    refine .inr ⟨⟨h.1, h.2.1⟩, ?_⟩
    unfold Position.cleared
    split
    · exact List.mem_cons_self
    · split
      · exact List.mem_cons_of_mem _ List.mem_cons_self
      · exact List.mem_cons_of_mem _ (List.mem_cons_of_mem _ List.mem_cons_self)
  · exact .inl rfl

theorem Position.Kept.trans {x y z : Position} (h1 : x.Kept y) (h2 : y.Kept z) : x.Kept z :=
  ⟨h2.state.trans h1.state, h2.identity.trans h1.identity, h2.debt.trans h1.debt, h2.doubt.trans h1.doubt,
    h2.call.trans h1.call, h2.recovery.trans h1.recovery, h2.reservation.trans h1.reservation⟩

theorem Position.Stands.touched {sel : Position → Prop} (hsel : Position.Selects sel) {x y z : Position}
    (hx : x.ReservationLaw) (h : x.Stands sel y) (ht : y.Touched z) : x.Stands sel z := by
  rcases ht with rfl | ⟨v, k, hv, rfl⟩
  · exact h
  have hnote := v.noticed_kept k
  have hrelease (hk : ∃ k', v = y.released k') (hy : sel y → ¬(y.state = .recovering ∧ y.reservation = false)) :
      (sel y → v = y) ∧ (¬sel y → ¬sel v) := by
    obtain ⟨k', rfl⟩ := hk
    rcases y.released_or_rests k' with heq | ⟨hwait, hrest⟩
    · rw [heq]
      exact ⟨fun _ => rfl, id⟩
    · exact ⟨fun hs => absurd hwait (hy hs), fun _ => hsel.rest hrest⟩
  have hv' : (sel y → ¬(y.state = .recovering ∧ y.reservation = false)) → (sel y → v = y) ∧ (¬sel y → ¬sel v) := by
    rcases hv with rfl | hv
    · exact fun _ => ⟨fun _ => rfl, id⟩
    · exact hrelease hv
  constructor
  · intro hs
    have hk := h.1 hs
    have hy := hv' fun _ hw => hsel.holds hx hs ⟨hk.state ▸ hw.1, hk.reservation ▸ hw.2⟩
    rw [hy.1 ((hsel.kept hk).mpr hs)] at hnote ⊢
    exact hk.trans hnote
  · intro hs
    have hns := h.2 hs
    exact fun hz => (hv' fun hs' => absurd hs' hns).2 hns ((hsel.kept hnote).mp hz)

/-! ### The filing of one position -/

/-- A position of one state has filed what it owes and a record, from one state to the next. -/
structure State.Files (w : State) (p : PosId) (r : CallRecord) (u v : State) : Prop where
  ledger : (if (w.pos p).Owes then w.entered u p else u).SameLedger v
  queue : v.queue = { records := u.queue.records ++ [r], nextSequence := u.queue.nextSequence + 1 }
  totals : v.acct.totals = { u.acct.totals with
    writtenOff := v.acct.totals.writtenOff, recordsWritten := u.acct.totals.recordsWritten + 1 }
  others : ∀ q, q ≠ p → (u.pos q).Touched (v.pos q)
  stamp : v.link.stamp = u.link.stamp

theorem State.Filing.stamp {s t : State} (h : s.Filing t) : t.link.stamp = s.link.stamp := by
  rw [h.frame]

/-- The call as RESTART ends it: a call in CLEARING keeps its cause (R44). -/
def Position.endedCall (now : Word32) (x : Position) (c : Call) : Call :=
  if x.state = .clearing then c
  else { c with endCause := some .restart, duration := (c.answer.map fun a => now - a).getD 0 }

theorem Position.restartCause_call {x : Position} {c : Call} (h : x.call = some c) (now : Word32) :
    x.restartCause now = { x with call := some (x.endedCall now c) } := by
  unfold Position.restartCause Position.endedCall Position.mapCall
  split
  · cases x
    cases h
    rfl
  · rw [h]
    have hf : c.finish .restart now =
        { c with endCause := some .restart, duration := (c.answer.map fun a => now - a).getD 0 } := by
      unfold Call.finish
      cases c.answer <;> rfl
    rw [Option.map_some, hf]

theorem Call.record_eq_written (c : Call) (p : PosId) (card : Option CardKey) (seq : Word16) :
    c.record p card seq = c.written p card seq (c.endCause.getD .restart) := by
  unfold Call.record Call.written Call.recorded
  cases c.kind <;> simp [Units.zero]

theorem State.writeRecord_eq (s : State) (r : Word16 → CallRecord) :
    s.writeRecord r = s.recorded (r s.queue.nextSequence) := rfl

/-- The record that RESTART writes for the call of a position, at a sequence. -/
def State.callRecord (w : State) (p : PosId) (seq : Word16) : Option CallRecord :=
  (w.pos p).call.map fun c =>
    ({ (w.pos p).endedCall w.link.stamp c with units := (w.pos p).out c.units } : Call).written p (w.pos p).key seq
      (((w.pos p).endedCall w.link.stamp c).endCause.getD .restart)

/-- The record that RESTART writes for the recovery of a position, at a sequence. -/
def State.recoveryRecord (w : State) (p : PosId) (seq : Word16) : Option CallRecord :=
  (w.pos p).recovery.map fun r =>
    ({ r with units := (w.pos p).out r.units } : Recovery).written p (w.pos p).key seq .restart

theorem Position.out_congr {x y : Position} (hid : y.identity = x.identity) (hdebt : y.debt = x.debt)
    (hdoubt : y.doubt = x.doubt) : y.out = x.out := by
  unfold Position.out Position.Owes
  rw [hid, hdebt, hdoubt]

theorem Position.endedCall_units (now : Word32) (x : Position) (c : Call) : (x.endedCall now c).units = c.units := by
  unfold Position.endedCall
  split <;> rfl

theorem State.recorded_totals {u v : State}
    (h : v.acct.totals = { u.acct.totals with writtenOff := v.acct.totals.writtenOff }) (r : CallRecord) (p : PosId)
    (f : Position → Position) :
    ((v.recorded r).modPos p f).acct.totals =
      { u.acct.totals with
        writtenOff := ((v.recorded r).modPos p f).acct.totals.writtenOff
        recordsWritten := u.acct.totals.recordsWritten + 1 } := by
  change ({ v.acct.totals with recordsWritten := v.acct.totals.recordsWritten + 1 } : Totals) =
    { u.acct.totals with
      writtenOff := v.acct.totals.writtenOff, recordsWritten := u.acct.totals.recordsWritten + 1 }
  rw [h]

section
variable {w u : State} {p : PosId} (hctx : (w.pos p).ContextLaw) (hstamp : u.link.stamp = w.link.stamp)
include hctx hstamp

/-- A call that stands is ended and filed. -/
theorem State.restartCall_files (hc : (w.pos p).state.called) (hk : (w.pos p).Kept (u.pos p)) :
    ∃ r, w.callRecord p u.queue.nextSequence = some r ∧ w.Files p r u (u.restartCall p) ∧
      ((u.restartCall p).pos p).state.called := by
  obtain ⟨c, hwc⟩ := Option.ne_none_iff_exists'.mp (hctx.1.mpr ((PosState.called_iff _).mp hc))
  have hrec : (w.pos p).recovery = none := by
    refine Classical.byContradiction fun hne => ?_
    rw [hctx.2 hne] at hc
    exact hc
  have hcause : (u.pos p).restartCause u.link.stamp =
      { u.pos p with call := some ((w.pos p).endedCall w.link.stamp c) } := by
    have hended : (u.pos p).endedCall w.link.stamp c = (w.pos p).endedCall w.link.stamp c := by
      unfold Position.endedCall
      rw [hk.state]
    rw [Position.restartCause_call (hk.call.trans hwc), hstamp, hended]
  obtain ⟨u', hu'⟩ : ∃ u', u' = u.modPos p (·.restartCause u.link.stamp) := ⟨_, rfl⟩
  have hp : u'.pos p = { u.pos p with call := some ((w.pos p).endedCall w.link.stamp c) } := by
    rw [hu', State.modPos_pos_self, hcause]
  have hid : (u'.pos p).identity = (w.pos p).identity := (congrArg Position.identity hp).trans hk.identity
  have hdebt : (u'.pos p).debt = (w.pos p).debt := (congrArg Position.debt hp).trans hk.debt
  have hdoubt : (u'.pos p).doubt = (w.pos p).doubt := (congrArg Position.doubt hp).trans hk.doubt
  have hstate : (u'.pos p).state = (w.pos p).state := (congrArg Position.state hp).trans hk.state
  have hv : u.restartCall p = (u'.passDebt p).closeCall p := by
    unfold State.restartCall
    rw [if_pos ((PosState.called_iff_inCall _).mpr (hk.state ▸ hc)), hu']
  have hpass : (u'.passDebt p).pos p = (u'.pos p).passed := State.passDebt_pos (by
    rw [hstate]
    intro hr
    rw [hr] at hc
    exact hc)
  have hcall : ((u'.passDebt p).pos p).call =
      some { (w.pos p).endedCall w.link.stamp c with units := (w.pos p).out c.units } := by
    rw [hpass, Position.passed_call (congrArg Position.call hp), Position.out_congr hid hdebt hdoubt,
      Position.endedCall_units]
  have hkey : ((u'.passDebt p).pos p).key = (w.pos p).key := by
    rw [hpass]
    exact congrArg (Option.map fun y : CardId => y.key) ((u'.pos p).passed_role.identity.trans hid)
  have hqueue : (u'.passDebt p).queue = u.queue := by
    rw [State.passDebt_queue, hu']
    rfl
  have hclose : u.restartCall p = ((u'.passDebt p).recorded
      (({ (w.pos p).endedCall w.link.stamp c with units := (w.pos p).out c.units } : Call).written p (w.pos p).key
        u.queue.nextSequence (((w.pos p).endedCall w.link.stamp c).endCause.getD .restart))).modPos p fun x =>
      { x with call := none, reservation := false } := by
    rw [hv]
    unfold State.closeCall
    rw [hcall]
    dsimp only
    rw [State.writeRecord_eq, Call.record_eq_written, hkey, hqueue]
  rw [hclose]
  refine ⟨_, congrArg (Option.map _) hwc, ⟨?_, ?_, ?_, fun q hq => ?_, ?_⟩, ?_⟩
  · have hu : u.SameLedger u' := by
      rw [hu']
      exact ⟨rfl, rfl, rfl, rfl, rfl⟩
    refine State.SameLedger.trans ?_ ((State.passDebt_entered hid hdebt hdoubt ?_ ?_).trans ?_)
    · split
      · exact hu.entered w p
      · exact hu
    · rw [hu.stamp, hstamp]
    · exact .inr ((congrArg Position.recovery hp).trans (hk.recovery.trans hrec))
    · exact ⟨rfl, rfl, rfl, rfl, rfl⟩
  · rw [State.modPos_queue, State.recorded, hqueue]
  · refine State.recorded_totals ?_ ..
    have h := u'.passDebt_totals p
    rw [show u'.acct = u.acct by rw [hu']; rfl] at h
    exact h
  · rw [State.modPos_pos_ne _ hq]
    have h := u'.passDebt_touched hq
    rwa [show u'.pos q = u.pos q by rw [hu', State.modPos_pos_ne _ hq]] at h
  · refine (u'.passDebt_filing p).stamp.trans ?_
    rw [hu']
    rfl
  · rw [State.modPos_pos_self]
    change ((u'.passDebt p).pos p).state.called
    rw [hpass, (u'.pos p).passed_role.state, hstate]
    exact hc

/-- A recovery that stands is ended and filed. -/
theorem State.restartRecovery_files (hr : (w.pos p).state = .recovering ∧ (w.pos p).recovery ≠ none)
    (hk : (w.pos p).Kept (u.pos p)) :
    ∃ r, w.recoveryRecord p u.queue.nextSequence = some r ∧ w.Files p r u (u.restartRecovery p) := by
  obtain ⟨r, hwr⟩ := Option.ne_none_iff_exists'.mp hr.2
  have hcall : (u.pos p).call = none := by
    rw [hk.call]
    refine Classical.byContradiction fun hne => ?_
    have := hctx.1.mp hne
    simp [hr.1] at this
  have hv : u.restartRecovery p = (u.passDebt p).closeRecovery p .restart := by
    unfold State.restartRecovery
    exact if_pos (by simp [hk.state, hr.1, hk.recovery, hwr])
  have hpass : (u.passDebt p).pos p = (u.pos p).passed := State.passDebt_pos (by rw [hk.state, hr.1]; nofun)
  have hrec : ((u.passDebt p).pos p).recovery = some { r with units := (w.pos p).out r.units } := by
    rw [hpass, Position.passed_recovery hcall (hk.recovery.trans hwr), Position.out_congr hk.identity hk.debt hk.doubt]
  have hkey : ((u.passDebt p).pos p).key = (w.pos p).key := by
    rw [hpass]
    exact congrArg (Option.map fun y : CardId => y.key) ((u.pos p).passed_role.identity.trans hk.identity)
  rw [hv, State.closeRecovery_eq hrec, hkey, State.passDebt_queue]
  refine ⟨_, congrArg (Option.map _) hwr, ⟨?_, ?_, ?_, fun q hq => ?_, ?_⟩⟩
  · refine (State.passDebt_entered hk.identity hk.debt hk.doubt hstamp (.inl hcall)).trans ?_
    exact ⟨rfl, rfl, rfl, rfl, rfl⟩
  · rw [State.modPos_queue, State.recorded, State.passDebt_queue]
  · exact State.recorded_totals (u.passDebt_totals p) ..
  · rw [State.modPos_pos_ne _ hq]
    exact u.passDebt_touched hq
  · exact (u.passDebt_filing p).stamp

end

/-! ### One position after another -/

/-- The positions of a row have filed, in its order, from one state to another; a third has the tear list of the first. -/
structure State.FiledAll (w : State) (ps : List PosId) (rec : PosId → Word16 → Option CallRecord) (b : Word16) (k : Nat)
    (t u v : State) : Prop where
  ledger : ((ps.filter fun p => (w.pos p).Owes).foldl w.entered t).SameLedger v
  sequence : v.queue.nextSequence = b + BitVec.ofNat 16 (k + ps.length)
  records : v.queue.records = u.queue.records ++ (ps.zipIdx k).filterMap fun x => rec x.1 (b + BitVec.ofNat 16 x.2)
  totals : v.acct.totals = { u.acct.totals with
    writtenOff := v.acct.totals.writtenOff
    recordsWritten := u.acct.totals.recordsWritten + BitVec.ofNat 32 ps.length }

theorem State.FiledAll.nil {w t u : State} {rec : PosId → Word16 → Option CallRecord} {b : Word16} {k : Nat}
    (ht : t.SameLedger u) (hk : u.queue.nextSequence = b + BitVec.ofNat 16 k) : w.FiledAll [] rec b k t u u where
  ledger := ht
  sequence := hk
  records := (List.append_nil _).symm
  totals := by simp

theorem State.FiledAll.cons {w t u v x : State} {rec : PosId → Word16 → Option CallRecord} {b : Word16} {k : Nat}
    {p : PosId} {ps : List PosId} {r : CallRecord} (hf : w.Files p r u v)
    (hr : rec p (b + BitVec.ofNat 16 k) = some r)
    (h : w.FiledAll ps rec b (k + 1) (if (w.pos p).Owes then w.entered t p else t) v x) :
    w.FiledAll (p :: ps) rec b k t u x where
  ledger := by
    have hl := h.ledger
    by_cases ho : (w.pos p).Owes
    · rw [if_pos ho] at hl
      rw [List.filter_cons_of_pos (by simpa using ho)]
      exact hl
    · rw [if_neg ho] at hl
      rw [List.filter_cons_of_neg (by simpa using ho)]
      exact hl
  sequence := by
    rw [h.sequence, List.length_cons]
    congr 2
    omega
  records := by
    rw [h.records, hf.queue, List.zipIdx_cons,
      List.filterMap_cons_some (f := fun x : PosId × Nat => rec x.1 (b + BitVec.ofNat 16 x.2)) hr, List.append_assoc]
    rfl
  totals := by
    have hx := h.totals
    rw [hf.totals] at hx
    rw [List.length_cons, Nat.add_comm, BitVec.ofNat_add, ← BitVec.add_assoc]
    exact hx

/-- A row of positions that stand files, position by position. -/
theorem State.foldl_files {w : State} {f : State → PosId → State} {sel : Position → Prop} [DecidablePred sel]
    {rec : PosId → Word16 → Option CallRecord} {I : State → Prop} (hsel : Position.Selects sel)
    (hlaw : ∀ q, (w.pos q).ReservationLaw)
    (hfile : ∀ u p, I u → sel (w.pos p) → (w.pos p).Kept (u.pos p) →
      ∃ r, rec p u.queue.nextSequence = some r ∧ w.Files p r u (f u p) ∧ I (f u p))
    (hskip : ∀ u p, ¬sel (u.pos p) → f u p = u) {ps : List PosId} (hn : ps.Nodup) {b : Word16} {k : Nat} {t u : State}
    (hI : I u) (hst : ∀ q ∈ ps, (w.pos q).Stands sel (u.pos q)) (ht : t.SameLedger u)
    (hk : u.queue.nextSequence = b + BitVec.ofNat 16 k) :
    w.FiledAll (ps.filter fun p => sel (w.pos p)) rec b k t u (ps.foldl f u) ∧ I (ps.foldl f u) := by
  induction ps generalizing t u k with
  | nil => exact ⟨.nil ht hk, hI⟩
  | cons p ps ih =>
    obtain ⟨hp, hn⟩ := List.nodup_cons.mp hn
    have hstand := hst p List.mem_cons_self
    have hrest : ∀ q ∈ ps, (w.pos q).Stands sel (u.pos q) := fun q hq => hst q (List.mem_cons_of_mem _ hq)
    by_cases hs : sel (w.pos p)
    · obtain ⟨r, hr, hfiles, hI'⟩ := hfile u p hI hs (hstand.1 hs)
      have hne (q : PosId) (hq : q ∈ ps) : q ≠ p := fun h => hp (h ▸ hq)
      have hledger : (if (w.pos p).Owes then w.entered t p else t).SameLedger (f u p) := by
        refine State.SameLedger.trans ?_ hfiles.ledger
        split
        · exact ht.entered w p
        · exact ht
      have hseq : (f u p).queue.nextSequence = b + BitVec.ofNat 16 (k + 1) := by
        rw [hfiles.queue, hk, BitVec.ofNat_add, ← BitVec.add_assoc]
        rfl
      obtain ⟨h1, h2⟩ := ih hn hI'
        (fun q hq => (hrest q hq).touched hsel (hlaw q) (hfiles.others q (hne q hq))) hledger hseq
      rw [List.filter_cons_of_pos (by simpa using hs)]
      exact ⟨h1.cons hfiles (hk ▸ hr), h2⟩
    · rw [List.filter_cons_of_neg (by simpa using hs), List.foldl_cons, hskip u p (hstand.2 hs)]
      exact ih hn hI hrest ht hk

end Sys2Proof.Machine
end

section
/-!
PROOFS. RESTART as a whole: the operations cut off, the calls and the recoveries filed, the positions at rest (R44).
-/

namespace Sys2Proof.Machine

/-- The state in which RESTART has cut the operations off. -/
@[irreducible] def State.cut (s : State) : State := allEngines.foldl State.restartEngine s

/-- The state in which RESTART has ended the calls as well. -/
@[irreducible] def State.callsFiled (s : State) : State := allPositions.foldl State.restartCall s.cut

/-- The state in which RESTART has ended calls and recoveries. -/
@[irreducible] def State.filed (s : State) : State := allPositions.foldl State.restartRecovery s.callsFiled

/-- The positions brought to rest, and LINK_ERROR off. -/
def State.rested (u : State) : State := (u.mapPos fun _ x => x.restart).modLink fun l => { l with linkError := false }

theorem State.restart_eq (s : State) : s.restart = s.filed.rested := by
  unfold State.filed State.callsFiled State.cut
  rfl

theorem State.cut_cutOff (s : State) : s.CutOff [] s.cut := by
  unfold State.cut
  exact s.cutOff_engines

theorem State.cut_filing (s : State) : s.cut.Filing s.filed := by
  unfold State.filed State.callsFiled
  exact (State.Filing.foldl State.restartCall_filing allPositions _).trans
    (State.Filing.foldl State.restartRecovery_filing allPositions _)

/-! ### The positions once the operations are cut off -/

/-- The doubt of a position once its operation has been cut off (R75). -/
def Position.doubtCut (x : Position) : Option Nat :=
  if (x.inFlight.map fun f => (f.op, f.discard)) = some (.burn, false) then some x.remaining else x.doubt

theorem Position.abandon_eq {x : Position} {f : InFlight} (hf : x.inFlight = some f) :
    x.abandon f.op = { x with inFlight := none, doubt := x.doubtCut } := by
  unfold Position.abandon Position.doubtCut Position.discarding Position.setDoubt
  rw [hf]
  by_cases hb : f.op = .burn <;> cases hd : f.discard <;> simp [hb, hd]

theorem Position.cutOff_same (r : Bool) (x : Position) :
    ({ x with doubt := x.doubtCut } : Position).SameButAllocation (x.cutOff r) := by
  unfold Position.cutOff
  split
  · next hf =>
    have hd : x.doubtCut = x.doubt := by
      unfold Position.doubtCut
      rw [hf]
      exact if_neg nofun
    exact ⟨rfl, rfl, rfl, rfl, rfl, rfl, hd.symm, rfl, rfl, rfl⟩
  · next f hf =>
    have h := (x.abandon f.op).allocated_same r
    rw [Position.abandon_eq hf] at h ⊢
    exact ⟨h.state, h.blockPending, h.profile, h.freezeMark, h.identity, h.debt, h.doubt, h.call, h.recovery,
      h.reservation⟩

section
variable {s : State} (ha : s.OperationsAgree)
include ha

theorem State.cut_pos (p : PosId) : s.cut.pos p = (s.pos p).cutOff (s.relieving p) := by
  rw [s.cut_cutOff.pos ha p, if_neg]
  rintro ⟨f, -, hmem⟩
  cases hmem

theorem State.cut_pos_same (p : PosId) :
    ({ s.pos p with doubt := (s.pos p).doubtCut } : Position).SameButAllocation (s.cut.pos p) := by
  rw [State.cut_pos ha]
  exact Position.cutOff_same _ _

theorem State.cut_laws (hlaw : ∀ p, (s.pos p).ReservationLaw ∧ (s.pos p).ContextLaw) (p : PosId) :
    (s.cut.pos p).ReservationLaw ∧ (s.cut.pos p).ContextLaw := by
  have h := State.cut_pos_same ha p
  unfold Position.ReservationLaw Position.ContextLaw
  rw [h.state, h.recovery, h.reservation, h.call]
  exact hlaw p

/-- RESTART files the calls and then the recoveries of a lawful state. -/
theorem State.filed_all (hlaw : ∀ p, (s.pos p).ReservationLaw ∧ (s.pos p).ContextLaw) {calls recoveries : List PosId}
    (hcalls : calls = allPositions.filter fun p =>
      (s.cut.pos p).state ∈ [.routed, .metering, .lastUnit, .freeCall, .clearing])
    (hrecoveries : recoveries = allPositions.filter fun p =>
      (s.cut.pos p).state = .recovering ∧ (s.cut.pos p).recovery ≠ none) :
    s.cut.FiledAll calls s.cut.callRecord s.queue.nextSequence 0 s s.cut s.callsFiled ∧
      s.cut.FiledAll recoveries s.cut.recoveryRecord s.queue.nextSequence calls.length
        ((calls.filter fun p => (s.cut.pos p).Owes).foldl s.cut.entered s) s.callsFiled s.filed := by
  have hcut := s.cut_cutOff
  have hlaws := State.cut_laws ha hlaw
  have hcalled {x : Position} (hx : x.state ∈ [.routed, .metering, .lastUnit, .freeCall, .clearing]) :
      ¬(x.state = .recovering ∧ x.recovery ≠ none) := fun h => by simp [h.1] at hx
  have hledger : s.SameLedger s.cut := by
    rw [hcut.frame]
    exact ⟨rfl, rfl, rfl, rfl, rfl⟩
  have hseq : s.cut.queue.nextSequence = s.queue.nextSequence := by rw [hcut.frame]
  have hnodup : allPositions.Nodup := List.nodup_finRange 48
  have hfile1 (u : State) (p : PosId) (hI : u.link.stamp = s.cut.link.stamp ∧
      ∀ q, (s.cut.pos q).Stands (fun x => x.state = .recovering ∧ x.recovery ≠ none) (u.pos q))
      (hsel : (s.cut.pos p).state ∈ [.routed, .metering, .lastUnit, .freeCall, .clearing])
      (hk : (s.cut.pos p).Kept (u.pos p)) :
      ∃ r, s.cut.callRecord p u.queue.nextSequence = some r ∧ s.cut.Files p r u (u.restartCall p) ∧
        (u.restartCall p).link.stamp = s.cut.link.stamp ∧ ∀ q,
          (s.cut.pos q).Stands (fun x => x.state = .recovering ∧ x.recovery ≠ none) ((u.restartCall p).pos q) := by
    obtain ⟨r, hr, hf, hstill⟩ := State.restartCall_files (hlaws p).2 hI.1 ((PosState.called_iff _).mpr hsel) hk
    refine ⟨r, hr, hf, hf.stamp.trans hI.1, fun q => ?_⟩
    by_cases hq : q = p
    · subst hq
      exact ⟨fun h => absurd h (hcalled hsel), fun _ => hcalled ((PosState.called_iff _).mp hstill)⟩
    · exact (hI.2 q).touched Position.recovering_selects (hlaws q).1 (hf.others q hq)
  have hskip1 (u : State) (p : PosId) (hnot : ¬(u.pos p).state ∈ [.routed, .metering, .lastUnit, .freeCall, .clearing]) :
      u.restartCall p = u := by
    unfold State.restartCall
    exact if_neg fun h => hnot ((PosState.called_iff _).mp ((PosState.called_iff_inCall _).mp h))
  have hfile2 (u : State) (p : PosId) (hI : u.link.stamp = s.cut.link.stamp)
      (hsel : (s.cut.pos p).state = .recovering ∧ (s.cut.pos p).recovery ≠ none)
      (hk : (s.cut.pos p).Kept (u.pos p)) :
      ∃ r, s.cut.recoveryRecord p u.queue.nextSequence = some r ∧ s.cut.Files p r u (u.restartRecovery p) ∧
        (u.restartRecovery p).link.stamp = s.cut.link.stamp := by
    obtain ⟨r, hr, hf⟩ := State.restartRecovery_files (hlaws p).2 hI hsel hk
    exact ⟨r, hr, hf, hf.stamp.trans hI⟩
  have hskip2 (u : State) (p : PosId) (hnot : ¬((u.pos p).state = .recovering ∧ (u.pos p).recovery ≠ none)) :
      u.restartRecovery p = u := by
    unfold State.restartRecovery
    exact if_neg (by simpa [Option.isSome_iff_ne_none] using hnot)
  obtain ⟨h1, hstamp, hstand⟩ := State.foldl_files (k := 0) Position.called_selects (fun q => (hlaws q).1) hfile1 hskip1
    hnodup ⟨rfl, fun q => ⟨fun _ => .refl _, id⟩⟩ (fun q _ => ⟨fun _ => .refl _, id⟩) hledger
    (hseq.trans (BitVec.add_zero _).symm)
  rw [← hcalls] at h1
  obtain ⟨h2, -⟩ := State.foldl_files (k := calls.length) Position.recovering_selects (fun q => (hlaws q).1) hfile2 hskip2
    hnodup hstamp (fun q _ => hstand q) h1.ledger (by rw [h1.sequence, Nat.zero_add])
  rw [← hrecoveries] at h2
  unfold State.filed State.callsFiled
  exact ⟨h1, h2⟩

end

end Sys2Proof.Machine
end

section
/-!
PROOFS. RESTART brings the positions to rest: its effects field by field (R15, R44, R79, R98, R108).
-/

namespace Sys2Proof.Machine

/-! ### The positions and the engines after it -/

section
variable (u : State)

theorem State.rested_pos (p : PosId) : u.rested.pos p = (u.pos p).restart := by
  unfold State.rested
  rw [State.modLink_pos, State.mapPos_pos]

theorem State.rested_eq :
    u.rested = { u with positions := u.rested.positions, link := { u.link with linkError := false } } := by
  unfold State.rested State.mapPos
  rfl

theorem State.rested_eng (e : EngineId) : u.rested.eng e = u.eng e := by
  unfold State.rested
  rw [State.modLink_eng, State.mapPos_eng]

end

theorem State.restart_pos (s : State) (p : PosId) : s.restart.pos p = (s.filed.pos p).restart := by
  rw [State.restart_eq, State.rested_pos]

theorem State.restart_eng (s : State) (e : EngineId) : s.restart.eng e = (s.eng e).restart := by
  have hc := s.cut_cutOff.eng e
  rw [if_neg List.not_mem_nil] at hc
  rw [State.restart_eq, State.rested_eng, ← hc]
  exact State.eng_congr (by rw [s.cut_filing.frame]) e

theorem Engine.restart_fields (g : Engine) :
    g.restart =
      (let lane : LaneState := if g.disablePending = true ∧ g.op ≠ none then .disabled else g.lane
       { g with
         lane := lane, testTimeLeft := if lane = .testing then 50 else g.testTimeLeft, op := none
         laneReset := false, disablePending := false, burst := 0 }) := by
  unfold Engine.restart
  cases hd : g.disablePending <;> cases ho : g.op <;> simp [Config.busTestMs]

theorem Position.cutOff_allocation (r : Bool) (x : Position) :
    (let applied := if x.inFlight = none then none else x.pendingAlloc
     let relieves : Prop := applied = some .home ∧ x.allocation = .relief ∧ r = true
     (x.cutOff r).pendingAlloc = (if x.inFlight = none then x.pendingAlloc else none) ∧
     (relieves → (x.cutOff r).allocation = .relief ∧ (x.cutOff r).relieved = true) ∧
     (¬relieves → (x.cutOff r).allocation = applied.getD x.allocation ∧ (x.cutOff r).relieved = x.relieved)) := by
  cases hf : x.inFlight with
  | none =>
    have hcut : x.cutOff r = x := by
      unfold Position.cutOff
      rw [hf]
    rw [hcut, if_pos rfl]
    exact ⟨rfl, fun h => absurd h.1 nofun, fun _ => ⟨rfl, rfl⟩⟩
  | some f =>
    have hcut : x.cutOff r = ({ x with inFlight := none, doubt := x.doubtCut } : Position).allocated r := by
      unfold Position.cutOff
      rw [hf]
      dsimp only
      rw [Position.abandon_eq hf]
    rw [hcut, if_neg nofun, if_neg nofun]
    unfold Position.allocated Position.relieve
    dsimp only
    cases ha : x.pendingAlloc with
    | none => exact ⟨rfl, fun h => absurd h.1 nofun, fun _ => ⟨rfl, rfl⟩⟩
    | some a =>
      cases a <;> cases hal : x.allocation <;> cases r <;> simp

theorem State.restart_allocation {s : State} (ha : s.OperationsAgree) (p : PosId) :
    (let applied := if (s.pos p).inFlight = none then none else (s.pos p).pendingAlloc
     let relieves : Prop := applied = some .home ∧ (s.pos p).allocation = .relief ∧
       (s.eng (homeEngine p)).lane = .faulted ∧ (s.eng (homeEngine p)).autoRelief = true
     (s.restart.pos p).pendingAlloc = (if (s.pos p).inFlight = none then (s.pos p).pendingAlloc else none) ∧
     (relieves → (s.restart.pos p).allocation = .relief ∧ (s.restart.pos p).relieved = true) ∧
     (¬relieves → (s.restart.pos p).allocation = applied.getD (s.pos p).allocation ∧
       (s.restart.pos p).relieved = (s.pos p).relieved)) := by
  have hplace := s.cut_filing.places p
  rw [State.cut_pos ha] at hplace
  have hrows := (s.pos p).cutOff_allocation (s.relieving p)
  rw [← hplace.pendingAlloc, ← hplace.allocation, ← hplace.relieved] at hrows
  rw [State.restart_pos]
  unfold State.relieving at hrows
  simp only [decide_eq_true_eq] at hrows
  exact hrows

theorem State.restart_blocked (s : State) (p : PosId) :
    (s.restart.pos p).state =
      (if (s.pos p).state = .blocked ∨ (s.pos p).blockPending = true then .blocked else .vacant) := by
  have hplace := (s.cut_filing.places p).blocked
  obtain ⟨h1, h2, -⟩ := s.cut_cutOff.place p
  rw [h1, h2] at hplace
  rw [State.restart_pos, Position.restart]
  refine ite_iff_congr ?_
  rw [← hplace]
  simp

theorem State.restart_settings (s : State) (p : PosId) :
    (s.restart.pos p).profile = (s.pos p).profile ∧ (s.restart.pos p).freezeMark = (s.pos p).freezeMark := by
  have hplace := s.cut_filing.places p
  obtain ⟨-, -, h3, h4⟩ := s.cut_cutOff.place p
  rw [State.restart_pos]
  exact ⟨hplace.profile.trans h3, hplace.freezeMark.trans h4⟩

theorem State.restart_counts (s : State) (e : EngineId) :
    s.restart.acct.engines[e.val] =
      if (s.eng e).op = none then s.acct.engines[e.val]
      else
        { s.acct.engines[e.val] with
          abandoned := min 65535 (s.acct.engines[e.val].abandoned + 1) } := by
  have hc := s.cut_cutOff.counts e
  have hf : s.filed.acct.engines = s.cut.acct.engines := by rw [s.cut_filing.frame]
  have hr : s.restart.acct.engines = s.filed.acct.engines := by rw [State.restart_eq, State.rested_eq]
  rw [hr, hf, hc]
  simp only [List.not_mem_nil, false_or]
  rfl

/-! ### What it files, in terms of the state before it -/

theorem State.cut_stamp (s : State) : s.cut.link.stamp = s.link.stamp := by rw [s.cut_cutOff.frame]

section
variable {s : State} (ha : s.OperationsAgree)
include ha

theorem State.cut_owes (p : PosId) :
    (s.cut.pos p).Owes ↔
      (s.pos p).identity ≠ none ∧ (0 < (s.pos p).debt ∨ (s.pos p).doubtCut ≠ none) := by
  have h := State.cut_pos_same ha p
  unfold Position.Owes
  rw [h.identity, h.debt, h.doubt]

theorem State.cut_entered (u : State) (p : PosId) :
    s.cut.entered u p =
      (s.pos p).identity.elim u fun id =>
        u.createEntry
          { key := id.key, face := id.face
            owed := (s.pos p).debt - (if (s.pos p).doubtCut = none then 0 else 1)
            inDoubt := (s.pos p).doubtCut, origin := p, stamp := s.link.stamp } := by
  have h := State.cut_pos_same ha p
  unfold State.entered Position.request
  rw [h.identity, h.debt, h.doubt, State.cut_stamp]
  cases (s.pos p).identity <;> rfl

theorem State.cut_out (p : PosId) (u : Units) :
    (s.cut.pos p).out u =
      (let d := if (s.pos p).doubtCut = none then 0 else 1
       if (s.pos p).identity ≠ none ∧ (0 < (s.pos p).debt ∨ (s.pos p).doubtCut ≠ none) then
         { u with owedOut := u.owedOut + ((s.pos p).debt - d), doubtOut := u.doubtOut + d }
       else u) := by
  have h := State.cut_pos_same ha p
  unfold Position.out Position.Owes
  rw [h.identity, h.debt, h.doubt]

theorem State.cut_key (p : PosId) : (s.cut.pos p).key = (s.pos p).key :=
  congrArg (Option.map fun y : CardId => y.key) (State.cut_pos_same ha p).identity

theorem State.cut_callRecord (p : PosId) (seq : Word16) :
    s.cut.callRecord p seq =
      (s.pos p).call.map fun c =>
        ({ (s.pos p).endedCall s.link.stamp c with units := (s.cut.pos p).out c.units } : Call).written p (s.pos p).key
          seq (((s.pos p).endedCall s.link.stamp c).endCause.getD .restart) := by
  have h := State.cut_pos_same ha p
  unfold State.callRecord Position.endedCall
  rw [h.call, h.state, State.cut_stamp, State.cut_key ha]

theorem State.cut_recoveryRecord (p : PosId) (seq : Word16) :
    s.cut.recoveryRecord p seq =
      (s.pos p).recovery.map fun r =>
        ({ r with units := (s.cut.pos p).out r.units } : Recovery).written p (s.pos p).key seq .restart := by
  have h := State.cut_pos_same ha p
  unfold State.recoveryRecord
  rw [h.recovery, State.cut_key ha]

end

/-- RESTART taken, and the answer to it. -/
theorem exec_restart {s : State} (h : s.Takes .restart) :
    exec .restart s = .next (s.restart.answered .restart (.accepted [])) := by
  change Host.Outcome.next (s.request .restart restartRule) = _
  rw [State.request_of_takes h]
  rfl

end Sys2Proof.Machine
end

section
/-!
PROOFS. What RESTART leaves, put together (R44).
-/

namespace Sys2Proof.Machine

/-- What RESTART leaves outside the positions, the engines and what is filed. -/
theorem State.restart_frame (s : State) :
    s.queue.records <+: s.restart.queue.records ∧ (s.link.tearEvicted = true → s.restart.link.tearEvicted = true) ∧
    s.restart.acct.snapshot = s.acct.snapshot ∧ s.restart.acct.interval = s.acct.interval ∧
    s.restart.acct.intervalLeft = s.acct.intervalLeft ∧ s.restart.acct.intervalDue = s.acct.intervalDue ∧
    s.restart.tariff = s.tariff ∧ s.restart.settings = s.settings ∧ s.restart.depths = s.depths ∧
    s.restart.pending = s.pending ∧
    s.restart.link.stamp = s.link.stamp ∧ s.restart.link.rate = s.link.rate ∧ s.restart.link.attnMask = s.link.attnMask ∧
    s.restart.link.receiver = s.link.receiver ∧ s.restart.link.linkError = false ∧
    s.restart.link.snapshotReady = s.link.snapshotReady := by
  have hcut := s.cut_cutOff.frame
  have hfiling := s.cut_filing
  have hframe := hfiling.frame
  have hrest := s.filed.rested_eq
  have hq : s.cut.queue = s.queue := by rw [hcut]
  have hl : s.cut.link = s.link := by rw [hcut]
  rw [State.restart_eq]
  refine ⟨?_, fun h => ?_, ?_, ?_, ?_, ?_, ?_, ?_, ?_, ?_, ?_⟩
  · rw [hrest, ← hq]
    exact hfiling.records
  · rw [hrest]
    exact hfiling.evicted (by rw [hl]; exact h)
  · rw [hrest, hframe, hcut]
  · rw [hrest, hframe, hcut]
  · rw [hrest, hframe, hcut]
  · rw [hrest, hframe, hcut]
  · rw [hrest, hframe, hcut]
  · rw [hrest, hframe, hcut]
  · rw [hrest, hframe, hcut]
  · rw [hrest, hframe, hcut]
  · have hrl : s.filed.rested.link = { s.filed.link with linkError := false } := by rw [hrest]
    have hfl : s.filed.link = { s.cut.link with tearEvicted := s.filed.link.tearEvicted } := congrArg State.link hframe
    rw [hrl, hfl, hl]
    exact ⟨rfl, rfl, rfl, rfl, rfl, rfl⟩

theorem State.restart_ledger (s : State) :
    s.restart.tear = s.filed.tear ∧ s.restart.link.tearEvicted = s.filed.link.tearEvicted ∧
      s.restart.acct.global = s.filed.acct.global ∧ s.restart.acct.totals = s.filed.acct.totals ∧
      s.restart.queue = s.filed.queue := by
  rw [State.restart_eq, State.rested_eq]
  exact ⟨rfl, rfl, rfl, rfl, rfl⟩

/-! ### What it files, of a lawful state -/

section
variable {s : State} (ha : s.OperationsAgree)
include ha

theorem State.cut_calls :
    (allPositions.filter fun p => decide ((s.pos p).state ∈ [.routed, .metering, .lastUnit, .freeCall, .clearing])) =
      allPositions.filter fun p => decide ((s.cut.pos p).state ∈ [.routed, .metering, .lastUnit, .freeCall, .clearing]) :=
  List.filter_congr fun p _ => by rw [(State.cut_pos_same ha p).state]

theorem State.cut_recoveries :
    (allPositions.filter fun p => decide ((s.pos p).state = .recovering ∧ (s.pos p).recovery ≠ none)) =
      allPositions.filter fun p => decide ((s.cut.pos p).state = .recovering ∧ (s.cut.pos p).recovery ≠ none) :=
  List.filter_congr fun p _ => by rw [(State.cut_pos_same ha p).state, (State.cut_pos_same ha p).recovery]

theorem State.cut_filter_owes (ps : List PosId) :
    (ps.filter fun p => decide ((s.pos p).identity ≠ none ∧ (0 < (s.pos p).debt ∨ (s.pos p).doubtCut ≠ none))) =
      ps.filter fun p => decide (s.cut.pos p).Owes :=
  List.filter_congr fun p _ => decide_eq_decide.mpr (State.cut_owes ha p).symm

/-- The sums and the records of RESTART, from those of the calls and those of the recoveries. -/
theorem State.restart_filed (hlaw : ∀ p, (s.pos p).ReservationLaw ∧ (s.pos p).ContextLaw) {calls recoveries : List PosId}
    (hcalls : calls = allPositions.filter fun p =>
      decide ((s.pos p).state ∈ [.routed, .metering, .lastUnit, .freeCall, .clearing]))
    (hrecoveries : recoveries = allPositions.filter fun p =>
      decide ((s.pos p).state = .recovering ∧ (s.pos p).recovery ≠ none)) :
    (((calls ++ recoveries).filter fun p => decide (s.cut.pos p).Owes).foldl s.cut.entered s).SameLedger s.filed ∧
      s.filed.acct.totals = { s.acct.totals with
        writtenOff := s.filed.acct.totals.writtenOff
        recordsWritten := s.acct.totals.recordsWritten + BitVec.ofNat 32 (calls.length + recoveries.length) } ∧
      s.filed.queue.nextSequence = s.queue.nextSequence + BitVec.ofNat 16 (calls.length + recoveries.length) ∧
      s.filed.queue.records = s.queue.records ++
        (calls.zipIdx.filterMap fun x => s.cut.callRecord x.1 (s.queue.nextSequence + BitVec.ofNat 16 x.2)) ++
        (recoveries.zipIdx calls.length).filterMap fun x =>
          s.cut.recoveryRecord x.1 (s.queue.nextSequence + BitVec.ofNat 16 x.2) := by
  obtain ⟨h1, h2⟩ := State.filed_all ha hlaw (hcalls.trans (State.cut_calls ha))
    (hrecoveries.trans (State.cut_recoveries ha))
  have hqueue : s.cut.queue = s.queue := by rw [s.cut_cutOff.frame]
  have htotals : s.cut.acct.totals = s.acct.totals := by rw [s.cut_cutOff.frame]
  refine ⟨?_, ?_, h2.sequence, ?_⟩
  · rw [List.filter_append, List.foldl_append]
    exact h2.ledger
  · rw [h2.totals, h1.totals, htotals, BitVec.ofNat_add, BitVec.add_assoc]
  · rw [h2.records, h1.records, hqueue]

end

/-- Settles O50: the operations are cut off, calls and recoveries filed, and the positions brought to rest. -/
theorem restartBringsPositionsToRest : Obligations.RestartBringsPositionsToRest := by
  unfold Obligations.RestartBringsPositionsToRest
  intro s htakes
  have hexec := exec_restart htakes
  have hpos := s.restart_pos
  have hblocked := s.restart_blocked
  have hsettings := s.restart_settings
  have halloc := fun (ha : s.OperationsAgree) => State.restart_allocation ha
  have heng := s.restart_eng
  have hcounts := s.restart_counts
  have hframe := s.restart_frame
  obtain ⟨htear, hev, hglobal, htotals, hqueue⟩ := s.restart_ledger
  generalize s.restart = u at hexec hpos hblocked hsettings halloc heng hcounts hframe htear hev hglobal htotals hqueue
  refine ⟨_, hexec, fun p => ?_, halloc, fun e => (heng e).trans (Engine.restart_fields _), hcounts, ?_, ?_⟩
  · have hanswered : (u.answered .restart (.accepted [])).pos p = (s.filed.pos p).restart := hpos p
    have hstate := hblocked p
    have hkept := hsettings p
    rw [hpos p] at hstate hkept
    rw [hanswered]
    exact ⟨hstate, rfl, rfl, rfl, rfl, rfl, rfl, rfl, rfl, rfl, rfl, rfl, rfl, rfl, rfl, rfl, rfl, rfl, rfl, rfl, rfl, rfl,
      rfl, rfl, rfl, rfl, hkept⟩
  · intro doubt calls recoveries owes out listed ha hlaw
    obtain ⟨hledger, hsums, hsequence, hrecords⟩ := State.restart_filed ha hlaw (rfl : calls = _) (rfl : recoveries = _)
    have hlisted : listed = ((calls ++ recoveries).filter fun p => decide (s.cut.pos p).Owes).foldl s.cut.entered s := by
      rw [← State.cut_filter_owes ha]
      refine congrArg (List.foldl · s _) (funext fun v => funext fun p => ?_)
      rw [State.cut_entered ha]
      cases (s.pos p).identity <;> rfl
    have hcall : (fun x : PosId × Nat => s.cut.callRecord x.1 (s.queue.nextSequence + BitVec.ofNat 16 x.2)) = fun x =>
        (s.pos x.1).call.map fun c =>
          ({ (s.pos x.1).endedCall s.link.stamp c with units := out x.1 c.units } : Call).written x.1 (s.pos x.1).key
            (s.queue.nextSequence + BitVec.ofNat 16 x.2)
            (((s.pos x.1).endedCall s.link.stamp c).endCause.getD .restart) := by
      funext x
      simp only [State.cut_callRecord ha, State.cut_out ha]
      rfl
    have hrecovery : (fun x : PosId × Nat => s.cut.recoveryRecord x.1 (s.queue.nextSequence + BitVec.ofNat 16 x.2)) =
        fun x => (s.pos x.1).recovery.map fun r =>
          ({ r with units := out x.1 r.units } : Recovery).written x.1 (s.pos x.1).key
            (s.queue.nextSequence + BitVec.ofNat 16 x.2) .restart := by
      funext x
      simp only [State.cut_recoveryRecord ha, State.cut_out ha]
      rfl
    rw [hcall, hrecovery] at hrecords
    rw [← hlisted] at hledger
    refine ⟨htear.trans hledger.tear, hev.trans hledger.evicted, hglobal.trans hledger.global, ?_, ?_, ?_⟩
    · rw [← hledger.writtenOff]
      exact htotals.trans hsums
    · exact (congrArg RecordQueue.nextSequence hqueue).trans hsequence
    · exact (congrArg RecordQueue.records hqueue).trans hrecords
  · obtain ⟨hrecords, hevicted, hsnapshot, hinterval, hleft, hdue, htariff, hset, hdepths, hpending, hstamp, hrate, hmask,
      hreceiver, herror, hready⟩ := hframe
    exact ⟨hrecords, hevicted, hsnapshot, hinterval, hleft, hdue, htariff, hset, hdepths, hpending, hstamp, hrate, hmask,
      hreceiver, herror, hready, rfl⟩

end Sys2Proof.Machine
end
